-- ==== Sys2Proof/Word.lean ====
section
/-! DEFINITION. The byte: the only machine word of the block (10_state.md R24, R25; 00_scope.md R11). -/

namespace Sys2Proof

/-- A byte of a frame, bit 0 the least significant (00_scope.md R11). -/
abbrev Byte := BitVec 8

end Sys2Proof
end

