-- ==== Sys2Proof/Config.lean ====
section
/-! DEFINITION. What is fixed when a device is built: the revision strap, the layout and timing records, the tolerance
predicate, and the constants without a body that stand for what the spec leaves to the platform. The enumerations of
00_scope.md R16 stand here too, since the records speak of them. -/

namespace Sys2Proof

/-- The three revisions (00_scope.md R3, R8). -/
inductive Rev where
  | A | B | C
  deriving DecidableEq, Repr

/-- The modes of 10_state.md R21, in the source's order. -/
inductive Mode where
  | off | cool | dry | heat | fanOnly | auto
  deriving DecidableEq, Repr

/-- The fan speeds of 10_state.md R23. -/
inductive Fan where
  | auto | low | medium | high
  deriving DecidableEq, Repr

/-- The presets of 10_state.md R23. There is no value NORMAL. -/
inductive Preset where
  | none | sleep
  deriving DecidableEq, Repr

/-- ORDER of 20_memory.md R42: which bit of a byte goes out first. -/
inductive BitOrder where
  | lsb | msb
  deriving DecidableEq, Repr

/-- ROUNDS of 00_scope.md R9: a transmission is one round or two (30_encoding.md R82). -/
inductive Rounds where
  | one | two
  deriving DecidableEq, Repr

/-- MODE_CODE of 00_scope.md R9, each code a byte under the mask (30_encoding.md R61). OFF is not listed: its code is 0
in every revision. HEAT may have no code (revision A lacks it). -/
structure ModeCodes where
  auto    : Byte
  cool    : Byte
  dry     : Byte
  fanOnly : Byte
  heat    : Option Byte
  deriving DecidableEq, Repr

/-- FAN_CODE of 00_scope.md R9, each code a byte under the mask. -/
structure FanCodes where
  auto   : Byte
  low    : Byte
  medium : Byte
  high   : Byte
  deriving DecidableEq, Repr

/-- The record LAYOUT[REV] of 00_scope.md R9. A byte index is 0..8 by its type (30_encoding.md R79 (a)). -/
structure Layout where
  order     : BitOrder
  rounds    : Rounds
  modeByte  : Fin 9
  modeMask  : Byte
  modeCodes : ModeCodes
  tempByte  : Fin 9
  tempShift : Nat
  fanByte   : Fin 9
  fanMask   : Byte
  fanCodes  : FanCodes
  nightByte : Fin 9
  nightMask : Byte
  deriving DecidableEq, Repr

/-- The record TIMING[REV] of 00_scope.md R10, in microseconds. -/
structure Timing where
  hdrMark   : Nat
  hdrSpace  : Nat
  bitMark   : Nat
  oneSpace  : Nat
  zeroSpace : Nat
  finalMark : Nat
  gap       : Nat
  deriving DecidableEq, Repr

/-- One value for each revision: LAYOUT and TIMING are functions of REV (10_state.md R27), held as data. -/
structure PerRev (α : Type) where
  a : α
  b : α
  c : α
  deriving DecidableEq, Repr

def PerRev.get {α : Type} (p : PerRev α) : Rev → α
  | .A => p.a
  | .B => p.b
  | .C => p.c

/-- Which tolerance predicate Match the build has (42_deserialize.md R161): the spec's reference instance, or the
platform's own, of which nothing is known. -/
inductive Tolerance where
  | reference | platform
  deriving DecidableEq, Repr

/-- Everything that is fixed at build time and that no operation changes (10_state.md R27, R35). -/
structure Build where
  rev    : Rev
  layout : PerRev Layout
  timing : PerRev Timing
  tol    : Tolerance
  deriving DecidableEq, Repr

/-- The platform's tolerance predicate Match(e, o) of 42_deserialize.md R161, an implementation-defined parameter
(93_implementation_defined.md U1): no body, so no proof can see what it answers (log 12). -/
opaque Config.platformMatch : Nat → Nat → Bool

/-- AuxC(RXF) of 43_unpack.md R212, the diagnostic output of revision C as a function of the nine received bytes and of
nothing else; `none` is an output that is omitted. A free value: no body (log 8, 93_implementation_defined.md U3). -/
opaque Config.auxC : List Byte → Option Nat

end Sys2Proof
end

