-- ==== Sys2Proof/Machine/Reference.lean ====
section
/-! DEFINITION. The numbers: the constants the source fixes (00_scope.md R7) and the spec's reference instances of LAYOUT
(30_encoding.md R62 to R76) and TIMING (R78), of which every entry marked D is the spec's own placeholder. -/

namespace Sys2Proof.Machine

/-- FRAME_LEN of 00_scope.md R7. -/
def frameLen : Nat := 9

/-- NBITS of 00_scope.md R7: the data bits on the wire. -/
def nBits : Nat := 71

/-- CARRIER in hertz (00_scope.md R7, 41_serialize.md R141). -/
def carrier : Nat := 38000

/-- TEMP_MIN of 00_scope.md R7. -/
def tempMin : Int := 18

/-- TEMP_MAX of 00_scope.md R7. -/
def tempMax : Int := 30

/-- TEMP_OFF of 00_scope.md R7. -/
def tempOff : Int := 15

/-- TEMP_DRY_A of 00_scope.md R7. -/
def tempDryA : Int := 24

/-- The reference layout of revision A (30_encoding.md R62 to R66). -/
def layoutA : Layout where
  order := .lsb
  rounds := .two
  modeByte := 6
  modeMask := 0xFF
  modeCodes := ⟨0x08, 0x18, 0x10, 0x20, none⟩
  tempByte := 7
  tempShift := 0
  fanByte := 8
  fanMask := 0xFF
  fanCodes := ⟨0x01, 0x02, 0x03, 0x04⟩
  nightByte := 5
  nightMask := 0x01

/-- The reference layout of revision B (30_encoding.md R67 to R71). -/
def layoutB : Layout where
  order := .lsb
  rounds := .one
  modeByte := 6
  modeMask := 0x1F
  modeCodes := ⟨0x01, 0x02, 0x04, 0x08, some 0x10⟩
  tempByte := 7
  tempShift := 4
  fanByte := 8
  fanMask := 0x0E
  fanCodes := ⟨0x00, 0x02, 0x04, 0x06⟩
  nightByte := 8
  nightMask := 0x01

/-- The reference layout of revision C (30_encoding.md R72 to R76). -/
def layoutC : Layout where
  order := .msb
  rounds := .one
  modeByte := 0
  modeMask := 0x07
  modeCodes := ⟨0x05, 0x01, 0x02, 0x03, some 0x04⟩
  tempByte := 1
  tempShift := 0
  fanByte := 1
  fanMask := 0x30
  fanCodes := ⟨0x30, 0x00, 0x10, 0x20⟩
  nightByte := 2
  nightMask := 0x01

/-- The reference timing (30_encoding.md R78), in the order of its table. -/
def timingA : Timing := ⟨380, 380, 380, 1350, 960, 380, 17500⟩

def timingB : Timing := ⟨390, 390, 390, 1340, 970, 390, 17500⟩

def timingC : Timing := ⟨400, 400, 400, 1330, 975, 400, 17500⟩

/-- The build of revision `r` with the reference instances of every parameter. -/
def referenceBuild (r : Rev) : Build where
  rev := r
  layout := ⟨layoutA, layoutB, layoutC⟩
  timing := ⟨timingA, timingB, timingC⟩
  tol := .reference

end Sys2Proof.Machine
end

