-- ==== Sys2Proof/Machine/State.lean ====
section
/-! DEFINITION. The machine's state as plain data: every piece of state of 10_state.md, the intermediate results of
UNPACK (43_unpack.md R180), and the host actions not yet carried out. -/

namespace Sys2Proof.Machine

/-- The climate state: CS of 10_state.md R20, a published state, and the decoder's (m, t, f, p). The temperature is a
mathematical integer (R22). -/
structure Climate where
  mode   : Mode
  temp   : Int
  fan    : Fan
  preset : Preset
  deriving DecidableEq, Repr

/-- A frame buffer (20_memory.md R40): (address, byte) pairs in canonical form, see `Memory.wf` in Machine/Ops.lean. An
address that is not listed reads 0 (log 5). -/
abbrev Memory := List Host.Cell

/-- RES.reason of 10_state.md R28. -/
inductive Reason where
  | none | headerMismatch | bitMismatch
  deriving DecidableEq, Repr

/-- RES of 10_state.md R28. -/
structure Result where
  ok     : Bool
  reason : Reason
  pos    : Nat
  deriving DecidableEq, Repr

/-- An item of TXSEQ (10_state.md R30): `M d` or `S d`. -/
inductive Item where
  | mark  (d : Nat)
  | space (d : Nat)
  deriving DecidableEq, Repr

/-- An event of EMIT (10_state.md R30): the carrier and the committed sequence. -/
structure Emission where
  carrier : Nat
  items   : List Item
  deriving DecidableEq, Repr

/-- What the host can do between operations (44_commands.md R226; 95_test_vectors.md section 3). -/
inductive HostAct where
  /-- write the four fields of CS -/
  | writeCs (c : Climate)
  /-- hand a burst of (mark, space) pairs over to the receive port -/
  | burst (pairs : List (Nat × Nat))
  /-- issue a command: the bytes of one instruction word -/
  | command (word : List Byte)
  deriving DecidableEq, Repr

structure State where
  /-- REV, LAYOUT, TIMING and the choice of Match (10_state.md R27, R35) -/
  build : Build
  /-- CS (R20) -/
  cs    : Climate
  /-- TXF (R24) -/
  txf   : Memory
  /-- RXF (R25) -/
  rxf   : Memory
  /-- the round number of the sequencer position (R26) -/
  rd    : Nat
  /-- the bit position of the sequencer position (R26) -/
  k     : Nat
  /-- RES (R28) -/
  res   : Result
  /-- AUX (R29): `none` where nothing has been output -/
  aux   : Option Nat
  /-- TXCAR (R30) -/
  txcar : Nat
  /-- TXSEQ (R30) -/
  txseq : List Item
  /-- EMIT (R30), oldest first -/
  emit  : List Emission
  /-- RXS (R31) -/
  rxs   : List (Nat × Nat)
  /-- RXC (R31) -/
  rxc   : Nat
  /-- PUB (R32), oldest first -/
  pub   : List Climate
  /-- m, t, f, p of 43_unpack.md R180 (log 16) -/
  dec   : Climate
  /-- the host actions not yet carried out, first one first: the model's own field (log 13) -/
  inbox : List HostAct
  deriving DecidableEq, Repr

/-- A fault would stop the machine. The block has none: "There are no fatal errors in this core" (60_exceptions.md R240),
so this type has no constructor and nothing raises one. -/
inductive Fault where
  deriving DecidableEq, Repr

/-- Why a command is not accepted. A refusal leaves the block's state as it was (30_encoding.md R87; log 27). -/
inductive Refusal where
  /-- Raised by exec's arm of an instruction without a meaning. Safe. No arm uses it. -/
  | notModelled (mnemonic : String)
  /-- Raised by the command codes 011 and 111, which 30_encoding.md R87 leaves unassigned and has a model refuse. Safe. -/
  | unassignedCode (op : BitVec 3)
  /-- Raised by step where the bytes of a command encode no instruction (log 19). Safe. -/
  | notAnInstruction (word : List Byte)
  deriving DecidableEq, Repr

/-- The machine right after reset (10_state.md R36, R37; 70_reset_and_hazards.md R270, R271): ports empty, no burst, idle.
The fields the spec leaves unspecified hold the values of logs 4 to 10 and 16. -/
def State.reset : State where
  build := referenceBuild .A
  cs := ⟨.off, tempMin, .auto, .none⟩
  txf := []
  rxf := []
  rd := 1
  k := 0
  res := ⟨false, .none, 0⟩
  aux := none
  txcar := 0
  txseq := []
  emit := []
  rxs := []
  rxc := 0
  pub := []
  dec := ⟨.off, tempMin, .auto, .none⟩
  inbox := []

end Sys2Proof.Machine
end

