-- ==== Sys2Proof/Machine/Ops.lean ====
section
/-! DEFINITION. The named operations every meaning is built from: reading and writing the frame buffers (20_memory.md), the
updates of each piece of state, the three ports (10_state.md R30 to R32), and the one abnormal outcome, a rejection
(00_scope.md R15). -/

namespace Sys2Proof.Machine

/-! ## The frame buffers -/

/-- What an address that is not listed reads as: the spec gives the buffers no reset contents (10_state.md R37; log 5). -/
def unlistedByte : Byte := 0

/-- MemRead of 00_scope.md R13. -/
def readByte : Memory → Nat → Byte
  | [], _ => unlistedByte
  | (a, v) :: rest, i => if a = i then v else readByte rest i

/-- The buffer with address `i` not listed. -/
def clearByte (m : Memory) (i : Nat) : Memory := m.filter fun p => decide (p.1 ≠ i)

/-- The buffer with address `i` listed, in front of the first higher address. -/
def insertByte : Memory → Nat → Byte → Memory
  | [], i, v => [(i, v)]
  | (a, b) :: rest, i, v => if i < a then (i, v) :: (a, b) :: rest else (a, b) :: insertByte rest i v

/-- MemWrite of 00_scope.md R13. The list stays in canonical form: writing what an unlisted address reads as takes the
address off the list. -/
def writeByte (m : Memory) (i : Nat) (v : Byte) : Memory :=
  if v = unlistedByte then clearByte m i else insertByte (clearByte m i) i v

/-- The canonical form: addresses strictly rising and in 0..8, no listed byte equal to what an unlisted one reads as. -/
def Memory.wf (m : Memory) : Bool :=
  decide (m.Pairwise fun p q => p.1 < q.1) && m.all fun p => decide (p.1 < frameLen) && decide (p.2 ≠ unlistedByte)

/-- The buffer with the bytes listed from address `i` on. -/
def writeBytes (m : Memory) (i : Nat) : List Byte → Memory
  | [] => m
  | v :: rest => writeBytes (writeByte m i v) (i + 1) rest

/-- The nine bytes of a buffer, byte 0 first. -/
def frameBytes (m : Memory) : List Byte := (List.range frameLen).map (readByte m)

/-! ## Updates of the state, one for each piece an operation writes -/

def setTxf (m : Memory) (s : State) : State := { s with txf := m }

def setRxf (m : Memory) (s : State) : State := { s with rxf := m }

def setRd (n : Nat) (s : State) : State := { s with rd := n }

def setK (n : Nat) (s : State) : State := { s with k := n }

def setRes (r : Result) (s : State) : State := { s with res := r }

def setAux (a : Option Nat) (s : State) : State := { s with aux := a }

def setTxcar (f : Nat) (s : State) : State := { s with txcar := f }

def setTxseq (l : List Item) (s : State) : State := { s with txseq := l }

def setEmit (l : List Emission) (s : State) : State := { s with emit := l }

def setRxs (l : List (Nat × Nat)) (s : State) : State := { s with rxs := l }

def setRxc (n : Nat) (s : State) : State := { s with rxc := n }

def setPub (l : List Climate) (s : State) : State := { s with pub := l }

def setCs (c : Climate) (s : State) : State := { s with cs := c }

def setDec (c : Climate) (s : State) : State := { s with dec := c }

def setInbox (l : List HostAct) (s : State) : State := { s with inbox := l }

/-! ## The constant records -/

/-- LAYOUT[REV] (10_state.md R27). -/
def layout (s : State) : Layout := s.build.layout.get s.build.rev

/-- TIMING[REV] (10_state.md R27). -/
def timing (s : State) : Timing := s.build.timing.get s.build.rev

/-- Match(e, o) of 42_deserialize.md R161: the reference instance is `4 × |o − e| ≤ e`. -/
def matchDuration (tol : Tolerance) (e o : Nat) : Bool :=
  match tol with
  | .reference => decide (4 * ((o - e) + (e - o)) ≤ e)
  | .platform => Config.platformMatch e o

/-! ## The transmit port (10_state.md R30) -/

/-- TX.begin(f). -/
def txBegin (f : Nat) (s : State) : State := setTxseq [] (setTxcar f s)

/-- TX.mark(d). -/
def txMark (d : Nat) (s : State) : State := setTxseq (s.txseq ++ [.mark d]) s

/-- TX.space(d). -/
def txSpace (d : Nat) (s : State) : State := setTxseq (s.txseq ++ [.space d]) s

/-- TX.commit(): one event on EMIT. The items stay in TXSEQ until the next TX.begin (log 9). -/
def txCommit (s : State) : State := setEmit (s.emit ++ [⟨s.txcar, s.txseq⟩]) s

/-! ## The receive port (10_state.md R31) -/

/-- A burst is handed over: RXS is set and the cursor goes to 0. -/
def handBurst (pairs : List (Nat × Nat)) (s : State) : State := setRxc 0 (setRxs pairs s)

/-- The pair at the cursor, if there is one, matches the expected mark and space (42_deserialize.md R162). -/
def pairMatches (mark space : Nat) (s : State) : Bool :=
  match s.rxs[s.rxc]? with
  | some p => matchDuration s.build.tol mark p.1 && matchDuration s.build.tol space p.2
  | none => false

/-- RX.expect(m, s): true consumes the pair (`some` of the state with the cursor moved on), false leaves everything as it is
(`none`). -/
def rxExpect (mark space : Nat) (s : State) : Option State :=
  if pairMatches mark space s then some (setRxc (s.rxc + 1) s) else none

/-! ## The publish port (10_state.md R32) -/

/-- HOST.publish(CS). -/
def publish (s : State) : State := setPub (s.pub ++ [s.cs]) s

/-! ## Rejection: the block's one exception (00_scope.md R15, 60_exceptions.md R247) -/

/-- raise Reject(reason, pos): RES is written and nothing else. There is no handler, no saved context and no vector, so
control goes back to the caller and there is no return operation (R247, R248). -/
def reject (reason : Reason) (pos : Nat) (s : State) : State := setRes ⟨false, reason, pos⟩ s

/-- The state an operation that can reject leaves, whether it rejected (`error`) or not (`ok`). -/
def ending : Except State State → State
  | .ok s => s
  | .error s => s

end Sys2Proof.Machine
end

