-- ==== Sys2Proof/Machine/Flags.lean ====
section
/-! DEFINITION. The flags: RES = (ok, reason, pos), the only flag set of the block (10_state.md R28). DESERIALIZE, RECEIVE
and the steps that end one write it; nothing in the block reads it. -/

namespace Sys2Proof.Machine

/-- RES of a success: (true, NONE, 71) (42_deserialize.md R169, 60_exceptions.md R243). -/
def success : Result := ⟨true, .none, nBits⟩

/-- The end of a scan that met no mismatch. -/
def succeed (s : State) : State := setRes success s

/-- Reject(HEADER_MISMATCH, 0) (60_exceptions.md R241, R243). -/
def rejectHeader (s : State) : State := reject .headerMismatch 0 s

/-- Reject(BIT_MISMATCH, k) at the sequencer position (60_exceptions.md R242, R243). -/
def rejectBit (s : State) : State := reject .bitMismatch s.k s

end Sys2Proof.Machine
end

