-- ==== Sys2Proof/Machine/Operands.lean ====
section
/-! DEFINITION. The operand forms: the bit a position of the wire carries (20_memory.md R44, R45), and the four fields of a
frame, in both directions (30_encoding.md R61, R80; 43_unpack.md R193 to R196). -/

namespace Sys2Proof.Machine

/-- clamp of 00_scope.md R12. -/
def clamp (x lo hi : Int) : Int := if x < lo then lo else if hi < x then hi else x

/-- The temperature clamp of 40_pack.md R101. -/
def clampTemp (x : Int) : Int := clamp x tempMin tempMax

/-! ## Bits on the wire -/

/-- BitIdx(j) of 20_memory.md R44. -/
def bitIdx (o : BitOrder) (j : Nat) : Nat :=
  match o with
  | .lsb => j
  | .msb => 7 - j

/-- Bit(F, k) of 20_memory.md R45. -/
def bitAt (o : BitOrder) (m : Memory) (k : Nat) : Bool := (readByte m (k / 8)).getLsbD (bitIdx o (k % 8))

/-! ## The mode field -/

/-- MODE_CODE[m] of revision `r`: OFF's code is 0 in every revision, and HEAT has no code in revision A (00_scope.md R9,
10_state.md R21). -/
def modeCode (r : Rev) (L : Layout) : Mode → Option Byte
  | .off => some 0
  | .cool => some L.modeCodes.cool
  | .dry => some L.modeCodes.dry
  | .heat =>
    match r with
    | .A => none
    | .B => L.modeCodes.heat
    | .C => L.modeCodes.heat
  | .fanOnly => some L.modeCodes.fanOnly
  | .auto => some L.modeCodes.auto

/-- The arms of UNPACK.r.MODE in the spec's order (43_unpack.md R181, R185, R189); the last arm, OFF, is the default. -/
def modeArms : Rev → List Mode
  | .A => [.auto, .dry, .cool, .fanOnly]
  | .B => [.auto, .cool, .dry, .fanOnly, .heat]
  | .C => [.cool, .dry, .fanOnly, .heat, .auto]

/-- The mode lookup of 43_unpack.md R193: the first arm whose code equals the masked byte, else OFF. -/
def modeOf (r : Rev) (L : Layout) (v : Byte) : Mode :=
  ((modeArms r).find? fun m => decide (modeCode r L m = some v)).getD .off

/-! ## The temperature field -/

/-- The temperature a frame carries: clamped (40_pack.md R101), and 24 in revision A when the mode is DRY (R107). -/
def sentTemp (r : Rev) (c : Climate) : Int :=
  match r with
  | .A => if c.mode = .dry then tempDryA else clampTemp c.temp
  | .B => clampTemp c.temp
  | .C => clampTemp c.temp

/-- TempField(t) of 40_pack.md R104. -/
def tempField (t : Int) : Byte := BitVec.ofNat 8 (t - tempOff).toNat

/-- The temperature field in its place (30_encoding.md R80). -/
def tempBits (L : Layout) (t : Int) : Byte := tempField t <<< L.tempShift

/-- The temperature decode of 43_unpack.md R194. -/
def tempOf (L : Layout) (v : Byte) : Int := clampTemp (((v >>> L.tempShift) &&& 0x0F).toNat + tempOff)

/-! ## The fan field -/

/-- FAN_CODE[f]. -/
def fanCode (L : Layout) : Fan → Byte
  | .auto => L.fanCodes.auto
  | .low => L.fanCodes.low
  | .medium => L.fanCodes.medium
  | .high => L.fanCodes.high

/-- The fan speed a frame carries: mode AUTO forces fan AUTO in revision C (40_pack.md R116), and in no other revision
(R108, R112). -/
def sentFan (r : Rev) (c : Climate) : Fan :=
  match r with
  | .A => c.fan
  | .B => c.fan
  | .C => if c.mode = .auto then .auto else c.fan

/-- The arms of UNPACK.r.FAN in the spec's order (43_unpack.md R183, R187, R191). -/
def fanArms : Rev → List Fan
  | .A => [.auto, .low, .medium, .high]
  | .B => [.auto, .low, .medium, .high]
  | .C => [.low, .medium, .high, .auto]

/-- The fan lookup: `none` where the masked byte equals no code (43_unpack.md R199). -/
def fanOf (r : Rev) (L : Layout) (v : Byte) : Option Fan := (fanArms r).find? fun f => decide (fanCode L f = v)

/-! ## The night-mode flag -/

/-- The preset of 43_unpack.md R196, from the masked byte. -/
def presetOf (v : Byte) : Preset := if v ≠ 0 then .sleep else .none

end Sys2Proof.Machine
end

