-- ==== Sys2Proof/Machine/Deserialize.lean ====
section
/-! DEFINITION. DESERIALIZE, the timing codec's receive half (42_deserialize.md). `error s` is a scan that rejected, with
RES written in `s`; `ok s` one that goes on. -/

namespace Sys2Proof.Machine

/-- The cursor back at the first pair of the burst (log 14). -/
def rxRewind (s : State) : State := setRxc 0 s

/-- RX_HEADER (42_deserialize.md R163): the first pair of the burst, wherever the cursor stood. -/
def rxHeader (s : State) : Except State State :=
  match rxExpect (timing s).hdrMark (timing s).hdrSpace (rxRewind s) with
  | some t => .ok t
  | none => .error (rejectHeader (rxRewind s))

/-- The two tests of RX_BIT in their order (42_deserialize.md R166): the bit read and the state with the pair consumed, or
nothing where both fail. -/
def rxTest (s : State) : Option (Bool × State) :=
  match rxExpect (timing s).bitMark (timing s).oneSpace s with
  | some t => some (true, t)
  | none =>
    match rxExpect (timing s).bitMark (timing s).zeroSpace s with
    | some t => some (false, t)
    | none => none

/-- `RXF[i] <- RXF[i] | (1 << b)` at the sequencer position (42_deserialize.md R160, R165). -/
def setRxBit (s : State) : State :=
  setRxf (writeByte s.rxf (s.k / 8)
    (readByte s.rxf (s.k / 8) ||| (1#8 <<< bitIdx (layout s).order (s.k % 8)))) s

/-- The bit `b` has been received: a 1 is stored, a 0 writes nothing, and k <- k + 1 (42_deserialize.md R160, R165). -/
def rxAccept (b : Bool) (s : State) : State :=
  match b with
  | true => setK (s.k + 1) (setRxBit s)
  | false => setK (s.k + 1) s

/-- RX_BIT (42_deserialize.md R166): the loop body of R160. -/
def rxBit (s : State) : Except State State :=
  match rxTest s with
  | some (b, t) => .ok (rxAccept b t)
  | none => .error (rejectBit s)

/-- The loop of 42_deserialize.md R160 with `n` bits left. -/
def rxBits : Nat → State → Except State State
  | 0, s => .ok s
  | n + 1, s =>
    match rxBit s with
    | .ok t => rxBits n t
    | .error t => .error t

/-- DESERIALIZE (42_deserialize.md R160): a function of the build and RXS alone (R170), since RX_HEADER goes to the first
pair. -/
def deserialize (s : State) : Except State State :=
  match rxHeader (setRxf [] s) with
  | .error t => .error t
  | .ok t =>
    match rxBits nBits (setK 0 t) with
    | .error u => .error u
    | .ok u => .ok (succeed u)

/-- DESERIALIZE where the burst ends it with the reason `r`: the whole of its effect, RES among it. A burst that ends it with
another reason changes nothing (log 28). -/
def deserializeTo (r : Reason) (s : State) : State :=
  if (ending (deserialize s)).res.reason = r then ending (deserialize s) else s

/-- One wire symbol's side of RX_BIT: the pair is consumed where the two tests of R166 read it as the bit `b`, left alone
where they read it as the other bit, and rejected where they read neither. After position 70 no bit is expected (R164,
R168), and nothing happens (log 17). -/
def rxSymbol (b : Bool) (s : State) : State :=
  if s.k < nBits then
    match rxTest s with
    | some (c, t) => if c = b then rxAccept b t else s
    | none => rejectBit s
  else s

end Sys2Proof.Machine
end

