-- ==== Sys2Proof/Machine/Pack.lean ====
section
/-! DEFINITION. PACK, the frame encoder (40_pack.md): the four field steps of a revision, and the whole. Each step ORs its
bits into TXF (30_encoding.md R61) and changes nothing else. -/

namespace Sys2Proof.Machine

/-- `TXF[i] <- TXF[i] | v`. -/
def orTxf (i : Nat) (v : Byte) (s : State) : State := setTxf (writeByte s.txf i (readByte s.txf i ||| v)) s

/-- The layout of the revision a field step belongs to. -/
def layoutOf (r : Rev) (s : State) : Layout := s.build.layout.get r

/-- PACK.r.MODE (40_pack.md R106, R110, R114): OFF, and a mode without a code (R103), write nothing. -/
def packMode (r : Rev) (s : State) : State :=
  match s.cs.mode with
  | .off => s
  | m =>
    match modeCode r (layoutOf r s) m with
    | some code => orTxf (layoutOf r s).modeByte code s
    | none => s

/-- PACK.r.TEMP (40_pack.md R107, R111, R115). -/
def packTemp (r : Rev) (s : State) : State :=
  orTxf (layoutOf r s).tempByte (tempBits (layoutOf r s) (sentTemp r s.cs)) s

/-- PACK.r.FAN (40_pack.md R108, R112, R116). -/
def packFan (r : Rev) (s : State) : State :=
  orTxf (layoutOf r s).fanByte (fanCode (layoutOf r s) (sentFan r s.cs)) s

/-- PACK.r.PRESET (40_pack.md R109, R113, R117): SLEEP sets the night-mode flag, NONE writes nothing. -/
def packPreset (r : Rev) (s : State) : State :=
  match s.cs.preset with
  | .sleep => orTxf (layoutOf r s).nightByte (layoutOf r s).nightMask s
  | .none => s

/-- PACK (40_pack.md R100): zero the nine bytes, then the four steps of REV in the source's order. -/
def pack (s : State) : State :=
  packPreset s.build.rev (packFan s.build.rev (packTemp s.build.rev (packMode s.build.rev (setTxf [] s))))

/-! ## One row of the table: one arm of a step's case -/

/-- The arm of PACK.r.MODE that mode `m` takes: nothing happens where CS.mode is another mode. -/
def packModeArm (r : Rev) (m : Mode) (s : State) : State := if s.cs.mode = m then packMode r s else s

/-- The arm of PACK.r.FAN that fan speed `f` takes. -/
def packFanArm (r : Rev) (f : Fan) (s : State) : State := if sentFan r s.cs = f then packFan r s else s

/-- The arm of PACK.r.PRESET that preset `p` takes. -/
def packPresetArm (r : Rev) (p : Preset) (s : State) : State := if s.cs.preset = p then packPreset r s else s

end Sys2Proof.Machine
end

