-- ==== Sys2Proof/Machine/Serialize.lean ====
section
/-! DEFINITION. SERIALIZE, the timing codec's transmit half (41_serialize.md): the symbols of a round, the round, the
transmission. -/

namespace Sys2Proof.Machine

/-- TX_HEADER (41_serialize.md R142). -/
def txHeader (s : State) : State := txSpace (timing s).hdrSpace (txMark (timing s).hdrMark s)

/-- The space that carries a bit (41_serialize.md R143): ONE_SPACE for 1, ZERO_SPACE for 0. -/
def bitSpace (T : Timing) (b : Bool) : Nat :=
  match b with
  | true => T.oneSpace
  | false => T.zeroSpace

/-- TX_BIT (41_serialize.md R143). -/
def txBit (b : Bool) (s : State) : State := txSpace (bitSpace (timing s) b) (txMark (timing s).bitMark s)

/-- TX_FINAL (41_serialize.md R146). -/
def txFinal (s : State) : State := txMark (timing s).finalMark s

/-- ROUNDS as a number. -/
def roundCount : Rounds → Nat
  | .one => 1
  | .two => 2

/-- TX_GAP (41_serialize.md R147): `if rd < ROUNDS then TX.space(GAP)`. -/
def txGap (s : State) : State :=
  if s.rd < roundCount (layout s).rounds then txSpace (timing s).gap s else s

/-- The loop of 41_serialize.md R140 with `n` bits left: emit Bit(TXF, k), then k <- k + 1. -/
def txBits : Nat → State → State
  | 0, s => s
  | n + 1, s => txBits n (setK (s.k + 1) (txBit (bitAt (layout s).order s.txf s.k) s))

/-- Round `rd` of 41_serialize.md R140: header, 71 bits, final mark, and the gap if another round follows. -/
def txRound (rd : Nat) (s : State) : State := txGap (txFinal (txBits nBits (setK 0 (txHeader (setRd rd s)))))

/-- `for rd in 1..ROUNDS`. -/
def txRounds (s : State) : State :=
  match (layout s).rounds with
  | .one => txRound 1 s
  | .two => txRound 2 (txRound 1 s)

/-- SERIALIZE (41_serialize.md R140). -/
def serialize (s : State) : State := txCommit (txRounds (txBegin carrier s))

end Sys2Proof.Machine
end

