-- ==== Sys2Proof/Machine/Unpack.lean ====
section
/-! DEFINITION. UNPACK, the frame decoder (43_unpack.md): the four field steps of a revision give m, t, f, p of R180 (`dec`),
then AUX in revision C, then one write of CS. -/

namespace Sys2Proof.Machine

/-- A masked byte of RXF. -/
def rxField (i : Nat) (mask : Byte) (s : State) : Byte := readByte s.rxf i &&& mask

/-- The mode the frame carries (43_unpack.md R181, R185, R189, R193). -/
def rxMode (r : Rev) (s : State) : Mode :=
  modeOf r (s.build.layout.get r) (rxField (s.build.layout.get r).modeByte (s.build.layout.get r).modeMask s)

/-- The temperature the frame carries (43_unpack.md R182, R186, R190, R194). -/
def rxTemp (r : Rev) (s : State) : Int :=
  tempOf (s.build.layout.get r) (readByte s.rxf (s.build.layout.get r).tempByte)

/-- The fan speed the frame carries, if its field matches a code (43_unpack.md R183, R187, R191). -/
def rxFan (r : Rev) (s : State) : Option Fan :=
  fanOf r (s.build.layout.get r) (rxField (s.build.layout.get r).fanByte (s.build.layout.get r).fanMask s)

/-- The preset the frame carries (43_unpack.md R184, R188, R192, R196). -/
def rxPreset (r : Rev) (s : State) : Preset :=
  presetOf (rxField (s.build.layout.get r).nightByte (s.build.layout.get r).nightMask s)

/-- `m <- UNPACK.r.MODE`. -/
def unpackMode (r : Rev) (s : State) : State := setDec { s.dec with mode := rxMode r s } s

/-- `t <- UNPACK.r.TEMP`. -/
def unpackTemp (r : Rev) (s : State) : State := setDec { s.dec with temp := rxTemp r s } s

/-- `f <- UNPACK.r.FAN`: the prior CS.fan where the field matches no code (43_unpack.md R199). -/
def unpackFan (r : Rev) (s : State) : State := setDec { s.dec with fan := (rxFan r s).getD s.cs.fan } s

/-- `p <- UNPACK.r.PRESET`. -/
def unpackPreset (r : Rev) (s : State) : State := setDec { s.dec with preset := rxPreset r s } s

/-- UNPACK.C.AUX (43_unpack.md R212), in revision C only (R180). -/
def unpackAux (s : State) : State :=
  match s.build.rev with
  | .A => s
  | .B => s
  | .C => setAux (Config.auxC (frameBytes s.rxf)) s

/-- The one write of 43_unpack.md R180 and R202. -/
def writeBack (s : State) : State := setCs s.dec s

/-- UNPACK (43_unpack.md R180). -/
def unpack (s : State) : State :=
  writeBack (unpackAux (unpackPreset s.build.rev (unpackFan s.build.rev (unpackTemp s.build.rev
    (unpackMode s.build.rev s)))))

/-! ## One row of the table: one arm of a step's case -/

/-- The arm of UNPACK.r.MODE that gives mode `m`; OFF's is the default arm. -/
def unpackModeArm (r : Rev) (m : Mode) (s : State) : State := if rxMode r s = m then unpackMode r s else s

/-- The arm of UNPACK.r.FAN that gives fan speed `f`; where no code matches, the `otherwise` arm, which keeps CS.fan. -/
def unpackFanArm (r : Rev) (f : Fan) (s : State) : State :=
  if (rxFan r s).getD f = f then unpackFan r s else s

/-- The arm of UNPACK.r.PRESET that gives preset `p`. -/
def unpackPresetArm (r : Rev) (p : Preset) (s : State) : State := if rxPreset r s = p then unpackPreset r s else s

end Sys2Proof.Machine
end

