-- ==== Sys2Proof/Machine/Commands.lean ====
section
/-! DEFINITION. The OP3 rows: the six operations of 30_encoding.md R86 and the two unassigned codes of R87. -/

namespace Sys2Proof.Machine

/-- PACK (40_pack.md R100). -/
def execPack (s : State) : Host.Outcome State Fault Refusal := .next (pack s)

/-- SERIALIZE (41_serialize.md R140). -/
def execSerialize (s : State) : Host.Outcome State Fault Refusal := .next (serialize s)

/-- TRANSMIT: PACK, then SERIALIZE (44_commands.md R220). -/
def execTransmit (s : State) : Host.Outcome State Fault Refusal := .next (serialize (pack s))

/-- DESERIALIZE (42_deserialize.md R160): a rejection is a next state with RES written (60_exceptions.md R247). -/
def execDeserialize (s : State) : Host.Outcome State Fault Refusal := .next (ending (deserialize s))

/-- UNPACK (43_unpack.md R180). -/
def execUnpack (s : State) : Host.Outcome State Fault Refusal := .next (unpack s)

/-- RECEIVE (44_commands.md R222): DESERIALIZE; on success UNPACK and one publish of the new CS (R224); on a rejection
nothing more (R223). -/
def execReceive (s : State) : Host.Outcome State Fault Refusal :=
  match deserialize s with
  | .ok t => .next (publish (unpack t))
  | .error t => .next t

/-- Code 011: refused, state unchanged (30_encoding.md R87). -/
def execUnassigned011 (_s : State) : Host.Outcome State Fault Refusal := .refused (.unassignedCode 3)

/-- Code 111: refused, state unchanged (30_encoding.md R87). -/
def execUnassigned111 (_s : State) : Host.Outcome State Fault Refusal := .refused (.unassignedCode 7)

end Sys2Proof.Machine
end

