-- ==== Sys2Proof/Syntax.lean ====
section
/-! DEFINITION. The instructions: one constructor for each of the 57 rows of spec/opcode_table.json. The OP3 rows are the
commands of 30_encoding.md R87. The other rows are the steps those operations are made of (R86), which the command port
can run on their own; a direction says which half of the codec the step belongs to (log 1, log 2). -/

namespace Sys2Proof

/-- The direction of 30_encoding.md R87: transmit side or receive side. -/
inductive Dir where
  | tx | rx
  deriving DecidableEq, Repr

inductive Instr where
  -- OP3: the command codes (30_encoding.md R86, R87)
  | pack | serialize | transmit | deserialize | unpack | receive
  | unassigned011 | unassigned111
  -- FRAME72: the three frame formats (30_encoding.md R62, R67, R72); the operands are the format's fields
  | frameA (d : Dir) (n : BitVec 1) (m : BitVec 8) (t : BitVec 4) (f : BitVec 8)
  | frameB (d : Dir) (m : BitVec 5) (t : BitVec 4) (s : BitVec 1) (f : BitVec 3) (n : BitVec 1)
  | frameC (d : Dir) (m : BitVec 3) (f : BitVec 2) (t : BitVec 4) (n : BitVec 1) (s : BitVec 1)
  -- FIELD.A (30_encoding.md R63 to R66)
  | aModeOff (d : Dir) | aModeAuto (d : Dir) | aModeDry (d : Dir) | aModeCool (d : Dir) | aModeFanOnly (d : Dir)
  | aTemp (d : Dir)
  | aFanAuto (d : Dir) | aFanLow (d : Dir) | aFanMedium (d : Dir) | aFanHigh (d : Dir)
  | aNightNone (d : Dir) | aNightSleep (d : Dir)
  -- FIELD.B (30_encoding.md R68 to R71)
  | bModeOff (d : Dir) | bModeAuto (d : Dir) | bModeCool (d : Dir) | bModeDry (d : Dir) | bModeFanOnly (d : Dir)
  | bModeHeat (d : Dir)
  | bTemp (d : Dir)
  | bFanAuto (d : Dir) | bFanLow (d : Dir) | bFanMedium (d : Dir) | bFanHigh (d : Dir)
  | bNightNone (d : Dir) | bNightSleep (d : Dir)
  -- FIELD.C (30_encoding.md R73 to R76)
  | cModeOff (d : Dir) | cModeCool (d : Dir) | cModeDry (d : Dir) | cModeFanOnly (d : Dir) | cModeHeat (d : Dir)
  | cModeAuto (d : Dir)
  | cTemp (d : Dir)
  | cFanLow (d : Dir) | cFanMedium (d : Dir) | cFanHigh (d : Dir) | cFanAuto (d : Dir)
  | cNightNone (d : Dir) | cNightSleep (d : Dir)
  -- SYMBOL: the wire symbols (30_encoding.md R81)
  | symHeader (d : Dir) | symBit1 (d : Dir) | symBit0 (d : Dir) | symFinal (d : Dir) | symGap (d : Dir)
  -- REASON2: the reason codes (60_exceptions.md R241, R242, R245)
  | reasonNone | reasonHeaderMismatch | reasonBitMismatch
  deriving DecidableEq, Repr

end Sys2Proof
end

