-- ==== Sys2Proof/Machine/FieldsA.lean ====
section
/-! DEFINITION. The FIELD.A rows of spec/opcode_table.json: on the transmit side one arm of a PACK.A step, on the receive
side one arm of an UNPACK.A step (log 2, log 3). -/

namespace Sys2Proof.Machine

/-- A.MODE.OFF: the arm of mode OFF (40_pack.md R106, 43_unpack.md R181). -/
def execAModeOff (d : Dir) (s : State) : Host.Outcome State Fault Refusal :=
  match d with
  | .tx => .next (packModeArm .A .off s)
  | .rx => .next (unpackModeArm .A .off s)

/-- A.MODE.AUTO: the arm of mode AUTO (40_pack.md R106, 43_unpack.md R181). -/
def execAModeAuto (d : Dir) (s : State) : Host.Outcome State Fault Refusal :=
  match d with
  | .tx => .next (packModeArm .A .auto s)
  | .rx => .next (unpackModeArm .A .auto s)

/-- A.MODE.DRY: the arm of mode DRY (40_pack.md R106, 43_unpack.md R181). -/
def execAModeDry (d : Dir) (s : State) : Host.Outcome State Fault Refusal :=
  match d with
  | .tx => .next (packModeArm .A .dry s)
  | .rx => .next (unpackModeArm .A .dry s)

/-- A.MODE.COOL: the arm of mode COOL (40_pack.md R106, 43_unpack.md R181). -/
def execAModeCool (d : Dir) (s : State) : Host.Outcome State Fault Refusal :=
  match d with
  | .tx => .next (packModeArm .A .cool s)
  | .rx => .next (unpackModeArm .A .cool s)

/-- A.MODE.FAN_ONLY: the arm of mode FAN_ONLY (40_pack.md R106, 43_unpack.md R181). -/
def execAModeFanOnly (d : Dir) (s : State) : Host.Outcome State Fault Refusal :=
  match d with
  | .tx => .next (packModeArm .A .fanOnly s)
  | .rx => .next (unpackModeArm .A .fanOnly s)

/-- A.TEMP: the temperature step (40_pack.md R107, 43_unpack.md R182). -/
def execATemp (d : Dir) (s : State) : Host.Outcome State Fault Refusal :=
  match d with
  | .tx => .next (packTemp .A s)
  | .rx => .next (unpackTemp .A s)

/-- A.FAN.AUTO: the arm of fan AUTO (40_pack.md R108, 43_unpack.md R183). -/
def execAFanAuto (d : Dir) (s : State) : Host.Outcome State Fault Refusal :=
  match d with
  | .tx => .next (packFanArm .A .auto s)
  | .rx => .next (unpackFanArm .A .auto s)

/-- A.FAN.LOW: the arm of fan LOW (40_pack.md R108, 43_unpack.md R183). -/
def execAFanLow (d : Dir) (s : State) : Host.Outcome State Fault Refusal :=
  match d with
  | .tx => .next (packFanArm .A .low s)
  | .rx => .next (unpackFanArm .A .low s)

/-- A.FAN.MEDIUM: the arm of fan MEDIUM (40_pack.md R108, 43_unpack.md R183). -/
def execAFanMedium (d : Dir) (s : State) : Host.Outcome State Fault Refusal :=
  match d with
  | .tx => .next (packFanArm .A .medium s)
  | .rx => .next (unpackFanArm .A .medium s)

/-- A.FAN.HIGH: the arm of fan HIGH (40_pack.md R108, 43_unpack.md R183). -/
def execAFanHigh (d : Dir) (s : State) : Host.Outcome State Fault Refusal :=
  match d with
  | .tx => .next (packFanArm .A .high s)
  | .rx => .next (unpackFanArm .A .high s)

/-- A.NIGHT.NONE: the arm of preset NONE (40_pack.md R109, 43_unpack.md R184). -/
def execANightNone (d : Dir) (s : State) : Host.Outcome State Fault Refusal :=
  match d with
  | .tx => .next (packPresetArm .A .none s)
  | .rx => .next (unpackPresetArm .A .none s)

/-- A.NIGHT.SLEEP: the arm of preset SLEEP (40_pack.md R109, 43_unpack.md R184). -/
def execANightSleep (d : Dir) (s : State) : Host.Outcome State Fault Refusal :=
  match d with
  | .tx => .next (packPresetArm .A .sleep s)
  | .rx => .next (unpackPresetArm .A .sleep s)

end Sys2Proof.Machine
end

