-- ==== Sys2Proof/Machine/FieldsB.lean ====
section
/-! DEFINITION. The FIELD.B rows of spec/opcode_table.json: on the transmit side one arm of a PACK.B step, on the receive
side one arm of an UNPACK.B step (log 2, log 3). -/

namespace Sys2Proof.Machine

/-- B.MODE.OFF: the arm of mode OFF (40_pack.md R110, 43_unpack.md R185). -/
def execBModeOff (d : Dir) (s : State) : Host.Outcome State Fault Refusal :=
  match d with
  | .tx => .next (packModeArm .B .off s)
  | .rx => .next (unpackModeArm .B .off s)

/-- B.MODE.AUTO: the arm of mode AUTO (40_pack.md R110, 43_unpack.md R185). -/
def execBModeAuto (d : Dir) (s : State) : Host.Outcome State Fault Refusal :=
  match d with
  | .tx => .next (packModeArm .B .auto s)
  | .rx => .next (unpackModeArm .B .auto s)

/-- B.MODE.COOL: the arm of mode COOL (40_pack.md R110, 43_unpack.md R185). -/
def execBModeCool (d : Dir) (s : State) : Host.Outcome State Fault Refusal :=
  match d with
  | .tx => .next (packModeArm .B .cool s)
  | .rx => .next (unpackModeArm .B .cool s)

/-- B.MODE.DRY: the arm of mode DRY (40_pack.md R110, 43_unpack.md R185). -/
def execBModeDry (d : Dir) (s : State) : Host.Outcome State Fault Refusal :=
  match d with
  | .tx => .next (packModeArm .B .dry s)
  | .rx => .next (unpackModeArm .B .dry s)

/-- B.MODE.FAN_ONLY: the arm of mode FAN_ONLY (40_pack.md R110, 43_unpack.md R185). -/
def execBModeFanOnly (d : Dir) (s : State) : Host.Outcome State Fault Refusal :=
  match d with
  | .tx => .next (packModeArm .B .fanOnly s)
  | .rx => .next (unpackModeArm .B .fanOnly s)

/-- B.MODE.HEAT: the arm of mode HEAT (40_pack.md R110, 43_unpack.md R185). -/
def execBModeHeat (d : Dir) (s : State) : Host.Outcome State Fault Refusal :=
  match d with
  | .tx => .next (packModeArm .B .heat s)
  | .rx => .next (unpackModeArm .B .heat s)

/-- B.TEMP: the temperature step (40_pack.md R111, 43_unpack.md R186). -/
def execBTemp (d : Dir) (s : State) : Host.Outcome State Fault Refusal :=
  match d with
  | .tx => .next (packTemp .B s)
  | .rx => .next (unpackTemp .B s)

/-- B.FAN.AUTO: the arm of fan AUTO (40_pack.md R112, 43_unpack.md R187). -/
def execBFanAuto (d : Dir) (s : State) : Host.Outcome State Fault Refusal :=
  match d with
  | .tx => .next (packFanArm .B .auto s)
  | .rx => .next (unpackFanArm .B .auto s)

/-- B.FAN.LOW: the arm of fan LOW (40_pack.md R112, 43_unpack.md R187). -/
def execBFanLow (d : Dir) (s : State) : Host.Outcome State Fault Refusal :=
  match d with
  | .tx => .next (packFanArm .B .low s)
  | .rx => .next (unpackFanArm .B .low s)

/-- B.FAN.MEDIUM: the arm of fan MEDIUM (40_pack.md R112, 43_unpack.md R187). -/
def execBFanMedium (d : Dir) (s : State) : Host.Outcome State Fault Refusal :=
  match d with
  | .tx => .next (packFanArm .B .medium s)
  | .rx => .next (unpackFanArm .B .medium s)

/-- B.FAN.HIGH: the arm of fan HIGH (40_pack.md R112, 43_unpack.md R187). -/
def execBFanHigh (d : Dir) (s : State) : Host.Outcome State Fault Refusal :=
  match d with
  | .tx => .next (packFanArm .B .high s)
  | .rx => .next (unpackFanArm .B .high s)

/-- B.NIGHT.NONE: the arm of preset NONE (40_pack.md R113, 43_unpack.md R188). -/
def execBNightNone (d : Dir) (s : State) : Host.Outcome State Fault Refusal :=
  match d with
  | .tx => .next (packPresetArm .B .none s)
  | .rx => .next (unpackPresetArm .B .none s)

/-- B.NIGHT.SLEEP: the arm of preset SLEEP (40_pack.md R113, 43_unpack.md R188). -/
def execBNightSleep (d : Dir) (s : State) : Host.Outcome State Fault Refusal :=
  match d with
  | .tx => .next (packPresetArm .B .sleep s)
  | .rx => .next (unpackPresetArm .B .sleep s)

end Sys2Proof.Machine
end

