-- ==== Sys2Proof/Machine/FieldsC.lean ====
section
/-! DEFINITION. The FIELD.C rows of spec/opcode_table.json: on the transmit side one arm of a PACK.C step, on the receive
side one arm of an UNPACK.C step (log 2, log 3). -/

namespace Sys2Proof.Machine

/-- C.MODE.OFF: the arm of mode OFF (40_pack.md R114, 43_unpack.md R189). -/
def execCModeOff (d : Dir) (s : State) : Host.Outcome State Fault Refusal :=
  match d with
  | .tx => .next (packModeArm .C .off s)
  | .rx => .next (unpackModeArm .C .off s)

/-- C.MODE.COOL: the arm of mode COOL (40_pack.md R114, 43_unpack.md R189). -/
def execCModeCool (d : Dir) (s : State) : Host.Outcome State Fault Refusal :=
  match d with
  | .tx => .next (packModeArm .C .cool s)
  | .rx => .next (unpackModeArm .C .cool s)

/-- C.MODE.DRY: the arm of mode DRY (40_pack.md R114, 43_unpack.md R189). -/
def execCModeDry (d : Dir) (s : State) : Host.Outcome State Fault Refusal :=
  match d with
  | .tx => .next (packModeArm .C .dry s)
  | .rx => .next (unpackModeArm .C .dry s)

/-- C.MODE.FAN_ONLY: the arm of mode FAN_ONLY (40_pack.md R114, 43_unpack.md R189). -/
def execCModeFanOnly (d : Dir) (s : State) : Host.Outcome State Fault Refusal :=
  match d with
  | .tx => .next (packModeArm .C .fanOnly s)
  | .rx => .next (unpackModeArm .C .fanOnly s)

/-- C.MODE.HEAT: the arm of mode HEAT (40_pack.md R114, 43_unpack.md R189). -/
def execCModeHeat (d : Dir) (s : State) : Host.Outcome State Fault Refusal :=
  match d with
  | .tx => .next (packModeArm .C .heat s)
  | .rx => .next (unpackModeArm .C .heat s)

/-- C.MODE.AUTO: the arm of mode AUTO (40_pack.md R114, 43_unpack.md R189). -/
def execCModeAuto (d : Dir) (s : State) : Host.Outcome State Fault Refusal :=
  match d with
  | .tx => .next (packModeArm .C .auto s)
  | .rx => .next (unpackModeArm .C .auto s)

/-- C.TEMP: the temperature step (40_pack.md R115, 43_unpack.md R190). -/
def execCTemp (d : Dir) (s : State) : Host.Outcome State Fault Refusal :=
  match d with
  | .tx => .next (packTemp .C s)
  | .rx => .next (unpackTemp .C s)

/-- C.FAN.LOW: the arm of fan LOW (40_pack.md R116, 43_unpack.md R191). -/
def execCFanLow (d : Dir) (s : State) : Host.Outcome State Fault Refusal :=
  match d with
  | .tx => .next (packFanArm .C .low s)
  | .rx => .next (unpackFanArm .C .low s)

/-- C.FAN.MEDIUM: the arm of fan MEDIUM (40_pack.md R116, 43_unpack.md R191). -/
def execCFanMedium (d : Dir) (s : State) : Host.Outcome State Fault Refusal :=
  match d with
  | .tx => .next (packFanArm .C .medium s)
  | .rx => .next (unpackFanArm .C .medium s)

/-- C.FAN.HIGH: the arm of fan HIGH (40_pack.md R116, 43_unpack.md R191). -/
def execCFanHigh (d : Dir) (s : State) : Host.Outcome State Fault Refusal :=
  match d with
  | .tx => .next (packFanArm .C .high s)
  | .rx => .next (unpackFanArm .C .high s)

/-- C.FAN.AUTO: the arm of fan AUTO (40_pack.md R116, 43_unpack.md R191). -/
def execCFanAuto (d : Dir) (s : State) : Host.Outcome State Fault Refusal :=
  match d with
  | .tx => .next (packFanArm .C .auto s)
  | .rx => .next (unpackFanArm .C .auto s)

/-- C.NIGHT.NONE: the arm of preset NONE (40_pack.md R117, 43_unpack.md R192). -/
def execCNightNone (d : Dir) (s : State) : Host.Outcome State Fault Refusal :=
  match d with
  | .tx => .next (packPresetArm .C .none s)
  | .rx => .next (unpackPresetArm .C .none s)

/-- C.NIGHT.SLEEP: the arm of preset SLEEP (40_pack.md R117, 43_unpack.md R192). -/
def execCNightSleep (d : Dir) (s : State) : Host.Outcome State Fault Refusal :=
  match d with
  | .tx => .next (packPresetArm .C .sleep s)
  | .rx => .next (unpackPresetArm .C .sleep s)

end Sys2Proof.Machine
end

