-- ==== Sys2Proof/WellFormed.lean ====
section
/-! DEFINITION. Well-formedness: of an instruction (a received frame's never-sent bit is 0), and WF of a layout
(30_encoding.md R79), clause by clause. -/

namespace Sys2Proof

/-- An instruction is well-formed unless it loads a frame into the receive buffer with the never-sent bit set: that bit
"is never transmitted and defaults to 0" (20_memory.md R46, 42_deserialize.md R167). -/
abbrev Instr.WellFormed : Instr → Prop
  | .frameA .rx _ _ _ f => f.getLsbD 7 = false
  | .frameB .rx _ _ s _ _ => s = 0
  | .frameC .rx _ _ _ _ s => s = 0
  | .frameA .tx _ _ _ _ | .frameB .tx _ _ _ _ _ | .frameC .tx _ _ _ _ _ => True
  | .pack | .serialize | .transmit | .deserialize | .unpack | .receive | .unassigned011 | .unassigned111 => True
  | .aModeOff _ | .aModeAuto _ | .aModeDry _ | .aModeCool _ | .aModeFanOnly _ | .aTemp _ | .aFanAuto _ | .aFanLow _
  | .aFanMedium _ | .aFanHigh _ | .aNightNone _ | .aNightSleep _ => True
  | .bModeOff _ | .bModeAuto _ | .bModeCool _ | .bModeDry _ | .bModeFanOnly _ | .bModeHeat _ | .bTemp _ | .bFanAuto _
  | .bFanLow _ | .bFanMedium _ | .bFanHigh _ | .bNightNone _ | .bNightSleep _ => True
  | .cModeOff _ | .cModeCool _ | .cModeDry _ | .cModeFanOnly _ | .cModeHeat _ | .cModeAuto _ | .cTemp _ | .cFanLow _
  | .cFanMedium _ | .cFanHigh _ | .cFanAuto _ | .cNightNone _ | .cNightSleep _ => True
  | .symHeader _ | .symBit1 _ | .symBit0 _ | .symFinal _ | .symGap _ => True
  | .reasonNone | .reasonHeaderMismatch | .reasonBitMismatch => True

/-- The codes of the supported modes other than OFF. -/
def ModeCodes.list (c : ModeCodes) : List Byte := [c.auto, c.cool, c.dry, c.fanOnly] ++ c.heat.toList

def FanCodes.list (c : FanCodes) : List Byte := [c.auto, c.low, c.medium, c.high]

/-- TEMP_MASK of 30_encoding.md R79 (d). -/
def Layout.tempMask (L : Layout) : Byte := 0x0F#8 <<< L.tempShift

/-- The never-sent bit of byte 8 (20_memory.md R46), as a mask: bit 7 for LSB, bit 0 for MSB. -/
def Layout.skippedMask (L : Layout) : Byte :=
  match L.order with
  | .lsb => 0x80
  | .msb => 0x01

/-- R79 (b), with MODE_CODE[OFF] = 0. -/
abbrev Layout.WfModes (L : Layout) : Prop :=
  L.modeCodes.list.Nodup ∧ ∀ c ∈ L.modeCodes.list, c ≠ 0 ∧ c &&& L.modeMask = c

/-- R79 (c). -/
abbrev Layout.WfFans (L : Layout) : Prop :=
  L.fanCodes.list.Nodup ∧ ∀ c ∈ L.fanCodes.list, c &&& L.fanMask = c

/-- R79 (d). -/
abbrev Layout.WfTemp (L : Layout) : Prop := L.tempShift ≤ 4

/-- R79 (e): exactly one bit set. -/
abbrev Layout.WfNight (L : Layout) : Prop := ∃ i : Fin 8, L.nightMask = 1#8 <<< i.val

/-- Two regions (byte, mask) are disjoint: R79 (f). -/
abbrev Layout.Apart (p q : Fin 9 × Byte) : Prop := p.1 ≠ q.1 ∨ p.2 &&& q.2 = 0

/-- The four regions of R79 (f). -/
def Layout.regions (L : Layout) : List (Fin 9 × Byte) :=
  [(L.modeByte, L.modeMask), (L.tempByte, L.tempMask), (L.fanByte, L.fanMask), (L.nightByte, L.nightMask)]

/-- R79 (f). -/
abbrev Layout.WfRegions (L : Layout) : Prop := L.regions.Pairwise Layout.Apart

/-- R79 (g): `v`, in byte `b`, leaves the never-sent bit alone. -/
abbrev Layout.Sent (L : Layout) (b : Fin 9) (v : Byte) : Prop := b ≠ 8 ∨ v &&& L.skippedMask = 0

/-- R79 (g). -/
abbrev Layout.WfSkipped (L : Layout) : Prop :=
  (∀ c ∈ L.modeCodes.list, L.Sent L.modeByte c) ∧ (∀ c ∈ L.fanCodes.list, L.Sent L.fanByte c) ∧
    L.Sent L.tempByte L.tempMask ∧ L.Sent L.nightByte L.nightMask

/-- R79 (h): the entries the source settles (00_scope.md R9), and which modes a revision supports (10_state.md R21). In
revision C, OFF gives byte 0 the value 0x00 for every temperature, fan and preset: no other field lies in byte 0, since the
temperature field is never 0 (40_pack.md R104), the fan codes are distinct, and the night mask has a bit. -/
abbrev Layout.WfSettled (L : Layout) : Rev → Prop
  | .A => L.modeByte = 6 ∧ L.modeCodes.cool = 0x18 ∧ L.tempByte = 7 ∧ L.tempShift = 0 ∧ L.fanByte = 8 ∧
      L.fanCodes.medium = 0x03 ∧ L.modeCodes.heat = none
  | .B => L.nightByte = 8 ∧ L.nightMask = 0x01 ∧ L.modeCodes.heat.isSome
  | .C => L.modeByte = 0 ∧ L.tempByte ≠ 0 ∧ L.fanByte ≠ 0 ∧ L.nightByte ≠ 0 ∧ L.modeCodes.heat.isSome

/-- WF(LAYOUT[r]) of 30_encoding.md R79; clause (a) holds by the type of the byte indices. -/
structure Layout.WF (L : Layout) (r : Rev) : Prop where
  modes   : L.WfModes
  fans    : L.WfFans
  temp    : L.WfTemp
  night   : L.WfNight
  regions : L.WfRegions
  skipped : L.WfSkipped
  settled : L.WfSettled r

end Sys2Proof
end

