-- ==== Sys2Proof/Decode.lean ====
section
/-! DEFINITION. The command port's words (log 1). The first byte of a word names its format; what follows is the row's own
encoding in spec/opcode_table.json: a 3-bit code (30_encoding.md R87), a 2-bit reason code (60_exceptions.md R245), the
number of a wire symbol, the byte, mask and code of a field row, or the nine bytes of a frame. `decode` is total on any
bytes and rejects by name; `encode` follows it. -/

namespace Sys2Proof

/-- Why bytes are no instruction. -/
inductive DecodeError where
  /-- no byte at all -/
  | empty
  /-- the first byte names no format -/
  | unknownFormat (tag : Byte)
  /-- the word ends before its format does -/
  | truncated
  /-- no row of the format has this encoding -/
  | unknownRow
  deriving DecidableEq, Repr

/-- What a word's first byte says: bits 7:3 the format, bit 2 the direction (R87's bit 2), bits 1:0 zero but for the two
formats whose code lies in them. -/
inductive Format where
  | op (code : BitVec 3)
  | reason (code : BitVec 2)
  | symbol (d : Dir)
  | field (r : Rev) (d : Dir)
  | frame (r : Rev) (d : Dir)
  deriving DecidableEq, Repr

def formatOf (tag : Byte) : Option Format :=
  match tag.toNat with
  | 0 | 1 | 2 | 3 | 4 | 5 | 6 | 7 => some (.op (tag.extractLsb' 0 3))
  | 8 | 9 | 10 | 11 => some (.reason (tag.extractLsb' 0 2))
  | 0x10 => some (.symbol .tx)
  | 0x14 => some (.symbol .rx)
  | 0x18 => some (.field .A .tx)
  | 0x1C => some (.field .A .rx)
  | 0x20 => some (.field .B .tx)
  | 0x24 => some (.field .B .rx)
  | 0x28 => some (.field .C .tx)
  | 0x2C => some (.field .C .rx)
  | 0x30 => some (.frame .A .tx)
  | 0x34 => some (.frame .A .rx)
  | 0x38 => some (.frame .B .tx)
  | 0x3C => some (.frame .B .rx)
  | 0x40 => some (.frame .C .tx)
  | 0x44 => some (.frame .C .rx)
  | _ => none

/-- OP[2:0] of 30_encoding.md R87. -/
def opInstr (code : BitVec 3) : Instr :=
  match code.toNat with
  | 0 => .pack
  | 1 => .serialize
  | 2 => .transmit
  | 3 => .unassigned011
  | 4 => .deserialize
  | 5 => .unpack
  | 6 => .receive
  | _ => .unassigned111

/-- The reason codes of 60_exceptions.md R245. -/
def reasonInstr (code : BitVec 2) : Option Instr :=
  match code.toNat with
  | 0 => some .reasonNone
  | 1 => some .reasonHeaderMismatch
  | 2 => some .reasonBitMismatch
  | _ => none

/-- The wire symbols in the order of 30_encoding.md R81. -/
def symbolInstr (d : Dir) (number : Nat) : Option Instr :=
  match number with
  | 0 => some (.symHeader d)
  | 1 => some (.symBit1 d)
  | 2 => some (.symBit0 d)
  | 3 => some (.symFinal d)
  | 4 => some (.symGap d)
  | _ => none

/-- FIELD.A rows by byte, mask and code (30_encoding.md R63 to R66). -/
def fieldInstrA (d : Dir) (byte mask code : Nat) : Option Instr :=
  match byte, mask, code with
  | 6, 0xFF, 0x00 => some (.aModeOff d)
  | 6, 0xFF, 0x08 => some (.aModeAuto d)
  | 6, 0xFF, 0x10 => some (.aModeDry d)
  | 6, 0xFF, 0x18 => some (.aModeCool d)
  | 6, 0xFF, 0x20 => some (.aModeFanOnly d)
  | 7, 0x0F, 0x00 => some (.aTemp d)
  | 8, 0xFF, 0x01 => some (.aFanAuto d)
  | 8, 0xFF, 0x02 => some (.aFanLow d)
  | 8, 0xFF, 0x03 => some (.aFanMedium d)
  | 8, 0xFF, 0x04 => some (.aFanHigh d)
  | 5, 0x01, 0x00 => some (.aNightNone d)
  | 5, 0x01, 0x01 => some (.aNightSleep d)
  | _, _, _ => none

/-- FIELD.B rows by byte, mask and code (30_encoding.md R68 to R71). -/
def fieldInstrB (d : Dir) (byte mask code : Nat) : Option Instr :=
  match byte, mask, code with
  | 6, 0x1F, 0x00 => some (.bModeOff d)
  | 6, 0x1F, 0x01 => some (.bModeAuto d)
  | 6, 0x1F, 0x02 => some (.bModeCool d)
  | 6, 0x1F, 0x04 => some (.bModeDry d)
  | 6, 0x1F, 0x08 => some (.bModeFanOnly d)
  | 6, 0x1F, 0x10 => some (.bModeHeat d)
  | 7, 0xF0, 0x00 => some (.bTemp d)
  | 8, 0x0E, 0x00 => some (.bFanAuto d)
  | 8, 0x0E, 0x02 => some (.bFanLow d)
  | 8, 0x0E, 0x04 => some (.bFanMedium d)
  | 8, 0x0E, 0x06 => some (.bFanHigh d)
  | 8, 0x01, 0x00 => some (.bNightNone d)
  | 8, 0x01, 0x01 => some (.bNightSleep d)
  | _, _, _ => none

/-- FIELD.C rows by byte, mask and code (30_encoding.md R73 to R76). -/
def fieldInstrC (d : Dir) (byte mask code : Nat) : Option Instr :=
  match byte, mask, code with
  | 0, 0x07, 0x00 => some (.cModeOff d)
  | 0, 0x07, 0x01 => some (.cModeCool d)
  | 0, 0x07, 0x02 => some (.cModeDry d)
  | 0, 0x07, 0x03 => some (.cModeFanOnly d)
  | 0, 0x07, 0x04 => some (.cModeHeat d)
  | 0, 0x07, 0x05 => some (.cModeAuto d)
  | 1, 0x0F, 0x00 => some (.cTemp d)
  | 1, 0x30, 0x00 => some (.cFanLow d)
  | 1, 0x30, 0x10 => some (.cFanMedium d)
  | 1, 0x30, 0x20 => some (.cFanHigh d)
  | 1, 0x30, 0x30 => some (.cFanAuto d)
  | 2, 0x01, 0x00 => some (.cNightNone d)
  | 2, 0x01, 0x01 => some (.cNightSleep d)
  | _, _, _ => none

def fieldInstr (r : Rev) (d : Dir) (byte mask code : Byte) : Option Instr :=
  match r with
  | .A => fieldInstrA d byte.toNat mask.toNat code.toNat
  | .B => fieldInstrB d byte.toNat mask.toNat code.toNat
  | .C => fieldInstrC d byte.toNat mask.toNat code.toNat

/-- The frame format of revision A read from the nine bytes (30_encoding.md R62): unassigned bits are ignored (R83), and
the never-sent bit of a received frame reads 0 (42_deserialize.md R167). -/
def frameInstrA (d : Dir) (b5 b6 b7 b8 : Byte) : Instr :=
  .frameA d (b5.extractLsb' 0 1) b6 (b7.extractLsb' 0 4)
    (match d with
      | .tx => b8
      | .rx => b8 &&& 0x7F)

/-- The frame format of revision B (30_encoding.md R67). -/
def frameInstrB (d : Dir) (b6 b7 b8 : Byte) : Instr :=
  .frameB d (b6.extractLsb' 0 5) (b7.extractLsb' 4 4)
    (match d with
      | .tx => b8.extractLsb' 7 1
      | .rx => 0)
    (b8.extractLsb' 1 3) (b8.extractLsb' 0 1)

/-- The frame format of revision C (30_encoding.md R72). -/
def frameInstrC (d : Dir) (b0 b1 b2 b8 : Byte) : Instr :=
  .frameC d (b0.extractLsb' 0 3) (b1.extractLsb' 4 2) (b1.extractLsb' 0 4) (b2.extractLsb' 0 1)
    (match d with
      | .tx => b8.extractLsb' 0 1
      | .rx => 0)

def orUnknown (i : Option Instr) (rest : List Byte) : Except DecodeError (Instr × List Byte) :=
  match i with
  | some i => .ok (i, rest)
  | none => .error .unknownRow

/-- The rest of a word whose first byte names the format `f`. -/
def decodeFormat (f : Format) (bytes : List Byte) : Except DecodeError (Instr × List Byte) :=
  match f with
  | .op code => .ok (opInstr code, bytes)
  | .reason code => orUnknown (reasonInstr code) bytes
  | .symbol d =>
    match bytes with
    | number :: rest => orUnknown (symbolInstr d number.toNat) rest
    | _ => .error .truncated
  | .field r d =>
    match bytes with
    | byte :: mask :: code :: rest => orUnknown (fieldInstr r d byte mask code) rest
    | _ => .error .truncated
  | .frame r d =>
    match bytes with
    | b0 :: b1 :: b2 :: _ :: _ :: b5 :: b6 :: b7 :: b8 :: rest =>
      match r with
      | .A => .ok (frameInstrA d b5 b6 b7 b8, rest)
      | .B => .ok (frameInstrB d b6 b7 b8, rest)
      | .C => .ok (frameInstrC d b0 b1 b2 b8, rest)
    | _ => .error .truncated

/-- The instruction at the head of the bytes, and the bytes after it. -/
def decode (bytes : List Byte) : Except DecodeError (Instr × List Byte) :=
  match bytes with
  | [] => .error .empty
  | tag :: rest =>
    match formatOf tag with
    | some f => decodeFormat f rest
    | none => .error (.unknownFormat tag)

/-! ## The encoder -/

/-- Bit 2 of a word's first byte. -/
def Dir.bit : Dir → Byte
  | .tx => 0
  | .rx => 4

def fieldTag : Rev → Byte
  | .A => 0x18
  | .B => 0x20
  | .C => 0x28

def frameTag : Rev → Byte
  | .A => 0x30
  | .B => 0x38
  | .C => 0x40

def symbolWord (d : Dir) (number : Byte) : List Byte := [0x10 ||| d.bit, number]

def fieldWord (r : Rev) (d : Dir) (byte mask code : Byte) : List Byte := [fieldTag r ||| d.bit, byte, mask, code]

/-- The nine bytes of FRAME.A: `0 0 0 0 0 0000000n mmmmmmmm 0000tttt ffffffff` (30_encoding.md R62). -/
def frameBytesA (n : BitVec 1) (m : BitVec 8) (t : BitVec 4) (f : BitVec 8) : List Byte :=
  [0, 0, 0, 0, 0, n.setWidth 8, m, t.setWidth 8, f]

/-- The nine bytes of FRAME.B: `0 0 0 0 0 0 000mmmmm tttt0000 s000fffn` (30_encoding.md R67). -/
def frameBytesB (m : BitVec 5) (t : BitVec 4) (s : BitVec 1) (f : BitVec 3) (n : BitVec 1) : List Byte :=
  [0, 0, 0, 0, 0, 0, m.setWidth 8, t.setWidth 8 <<< 4, s.setWidth 8 <<< 7 ||| f.setWidth 8 <<< 1 ||| n.setWidth 8]

/-- The nine bytes of FRAME.C: `00000mmm 00fftttt 0000000n 0 0 0 0 0 0000000s` (30_encoding.md R72). -/
def frameBytesC (m : BitVec 3) (f : BitVec 2) (t : BitVec 4) (n : BitVec 1) (s : BitVec 1) : List Byte :=
  [m.setWidth 8, f.setWidth 8 <<< 4 ||| t.setWidth 8, n.setWidth 8, 0, 0, 0, 0, 0, s.setWidth 8]

/-- The word of an instruction. -/
def encode : Instr → List Byte
  | .pack => [0]
  | .serialize => [1]
  | .transmit => [2]
  | .unassigned011 => [3]
  | .deserialize => [4]
  | .unpack => [5]
  | .receive => [6]
  | .unassigned111 => [7]
  | .reasonNone => [0x08]
  | .reasonHeaderMismatch => [0x09]
  | .reasonBitMismatch => [0x0A]
  | .symHeader d => symbolWord d 0
  | .symBit1 d => symbolWord d 1
  | .symBit0 d => symbolWord d 2
  | .symFinal d => symbolWord d 3
  | .symGap d => symbolWord d 4
  | .frameA d n m t f => (frameTag .A ||| d.bit) :: frameBytesA n m t f
  | .frameB d m t s f n => (frameTag .B ||| d.bit) :: frameBytesB m t s f n
  | .frameC d m f t n s => (frameTag .C ||| d.bit) :: frameBytesC m f t n s
  | .aModeOff d => fieldWord .A d 6 0xFF 0x00
  | .aModeAuto d => fieldWord .A d 6 0xFF 0x08
  | .aModeDry d => fieldWord .A d 6 0xFF 0x10
  | .aModeCool d => fieldWord .A d 6 0xFF 0x18
  | .aModeFanOnly d => fieldWord .A d 6 0xFF 0x20
  | .aTemp d => fieldWord .A d 7 0x0F 0x00
  | .aFanAuto d => fieldWord .A d 8 0xFF 0x01
  | .aFanLow d => fieldWord .A d 8 0xFF 0x02
  | .aFanMedium d => fieldWord .A d 8 0xFF 0x03
  | .aFanHigh d => fieldWord .A d 8 0xFF 0x04
  | .aNightNone d => fieldWord .A d 5 0x01 0x00
  | .aNightSleep d => fieldWord .A d 5 0x01 0x01
  | .bModeOff d => fieldWord .B d 6 0x1F 0x00
  | .bModeAuto d => fieldWord .B d 6 0x1F 0x01
  | .bModeCool d => fieldWord .B d 6 0x1F 0x02
  | .bModeDry d => fieldWord .B d 6 0x1F 0x04
  | .bModeFanOnly d => fieldWord .B d 6 0x1F 0x08
  | .bModeHeat d => fieldWord .B d 6 0x1F 0x10
  | .bTemp d => fieldWord .B d 7 0xF0 0x00
  | .bFanAuto d => fieldWord .B d 8 0x0E 0x00
  | .bFanLow d => fieldWord .B d 8 0x0E 0x02
  | .bFanMedium d => fieldWord .B d 8 0x0E 0x04
  | .bFanHigh d => fieldWord .B d 8 0x0E 0x06
  | .bNightNone d => fieldWord .B d 8 0x01 0x00
  | .bNightSleep d => fieldWord .B d 8 0x01 0x01
  | .cModeOff d => fieldWord .C d 0 0x07 0x00
  | .cModeCool d => fieldWord .C d 0 0x07 0x01
  | .cModeDry d => fieldWord .C d 0 0x07 0x02
  | .cModeFanOnly d => fieldWord .C d 0 0x07 0x03
  | .cModeHeat d => fieldWord .C d 0 0x07 0x04
  | .cModeAuto d => fieldWord .C d 0 0x07 0x05
  | .cTemp d => fieldWord .C d 1 0x0F 0x00
  | .cFanLow d => fieldWord .C d 1 0x30 0x00
  | .cFanMedium d => fieldWord .C d 1 0x30 0x10
  | .cFanHigh d => fieldWord .C d 1 0x30 0x20
  | .cFanAuto d => fieldWord .C d 1 0x30 0x30
  | .cNightNone d => fieldWord .C d 2 0x01 0x00
  | .cNightSleep d => fieldWord .C d 2 0x01 0x01

/-! ## The table's numbering of bits -/

/-- The lowest `n` bytes of a number, the least significant first. -/
def bytesOf : Nat → Nat → List Byte
  | 0, _ => []
  | n + 1, w => BitVec.ofNat 8 w :: bytesOf n (w / 256)

/-- The bytes of a table row's word: `nbits` bits of `w`, zeros above, up to the longest instruction (10 bytes). -/
def wordBytes (nbits w : Nat) : List Byte := bytesOf 10 (w % 2 ^ nbits)

/-- The instruction the decoder reads from a table row's word. -/
def decodeTableWord (nbits w : Nat) : Option Instr :=
  match decode (wordBytes nbits w) with
  | .ok (i, _) => some i
  | .error _ => none

end Sys2Proof
end

