-- ==== Sys2Proof/Machine/Frames.lean ====
section
/-! DEFINITION. The FRAME72 rows: the nine bytes of a frame format with the given fields are put into TXF (transmit side) or
RXF (receive side). A received frame's never-sent bit reads 0 (20_memory.md R46, 42_deserialize.md R167). See log 18. -/

namespace Sys2Proof.Machine

/-- The frame is the content of TXF. -/
def loadTxf (bytes : List Byte) (s : State) : State := setTxf (writeBytes [] 0 bytes) s

/-- The frame is the content of RXF. -/
def loadRxf (bytes : List Byte) (s : State) : State := setRxf (writeBytes [] 0 bytes) s

/-- FRAME.A (30_encoding.md R62). -/
def execFrameA (d : Dir) (n : BitVec 1) (m : BitVec 8) (t : BitVec 4) (f : BitVec 8) (s : State) :
    Host.Outcome State Fault Refusal :=
  match d with
  | .tx => .next (loadTxf (frameBytesA n m t f) s)
  | .rx => .next (loadRxf (frameBytesA n m t (f &&& 0x7F)) s)

/-- FRAME.B (30_encoding.md R67). -/
def execFrameB (d : Dir) (m : BitVec 5) (t : BitVec 4) (z : BitVec 1) (f : BitVec 3) (n : BitVec 1) (s : State) :
    Host.Outcome State Fault Refusal :=
  match d with
  | .tx => .next (loadTxf (frameBytesB m t z f n) s)
  | .rx => .next (loadRxf (frameBytesB m t 0 f n) s)

/-- FRAME.C (30_encoding.md R72). -/
def execFrameC (d : Dir) (m : BitVec 3) (f : BitVec 2) (t : BitVec 4) (n : BitVec 1) (z : BitVec 1) (s : State) :
    Host.Outcome State Fault Refusal :=
  match d with
  | .tx => .next (loadTxf (frameBytesC m f t n z) s)
  | .rx => .next (loadRxf (frameBytesC m f t n 0) s)

end Sys2Proof.Machine
end

