-- ==== Sys2Proof/Machine/Reasons.lean ====
section
/-! DEFINITION. The REASON2 rows: DESERIALIZE where its scan ends with that reason code (log 28). No row writes a reason but by
the tests of RX_HEADER and RX_BIT (60_exceptions.md R240 to R242). -/

namespace Sys2Proof.Machine

/-- REASON.NONE: the burst is accepted (60_exceptions.md R245, 42_deserialize.md R169). -/
def execReasonNone (s : State) : Host.Outcome State Fault Refusal := .next (deserializeTo .none s)

/-- REASON.HEADER_MISMATCH: the first pair of the burst fails RX_HEADER (60_exceptions.md R241, 42_deserialize.md R163). -/
def execReasonHeaderMismatch (s : State) : Host.Outcome State Fault Refusal := .next (deserializeTo .headerMismatch s)

/-- REASON.BIT_MISMATCH: a data position fails both tests of RX_BIT (60_exceptions.md R242, 42_deserialize.md R166). -/
def execReasonBitMismatch (s : State) : Host.Outcome State Fault Refusal := .next (deserializeTo .bitMismatch s)

end Sys2Proof.Machine
end

