-- ==== Sys2Proof/Machine/Symbols.lean ====
section
/-! DEFINITION. The SYMBOL rows: on the transmit side the symbol is appended to TXSEQ, on the receive side it is looked for
in the burst (30_encoding.md R81). -/

namespace Sys2Proof.Machine

/-- SYM.HEADER: TX_HEADER (41_serialize.md R142); RX_HEADER (42_deserialize.md R163). -/
def execSymHeader (d : Dir) (s : State) : Host.Outcome State Fault Refusal :=
  match d with
  | .tx => .next (txHeader s)
  | .rx => .next (ending (rxHeader s))

/-- SYM.BIT1: TX_BIT of a 1 (41_serialize.md R143); the arm of RX_BIT that reads 1 (42_deserialize.md R166). -/
def execSymBit1 (d : Dir) (s : State) : Host.Outcome State Fault Refusal :=
  match d with
  | .tx => .next (txBit true s)
  | .rx => .next (rxSymbol true s)

/-- SYM.BIT0: TX_BIT of a 0 (41_serialize.md R143); the arm of RX_BIT that reads 0 (42_deserialize.md R166). -/
def execSymBit0 (d : Dir) (s : State) : Host.Outcome State Fault Refusal :=
  match d with
  | .tx => .next (txBit false s)
  | .rx => .next (rxSymbol false s)

/-- SYM.FINAL: TX_FINAL (41_serialize.md R146); not examined on receive (42_deserialize.md R168). -/
def execSymFinal (d : Dir) (s : State) : Host.Outcome State Fault Refusal :=
  match d with
  | .tx => .next (txFinal s)
  | .rx => .next s

/-- SYM.GAP: TX_GAP (41_serialize.md R147); not examined on receive (42_deserialize.md R168). -/
def execSymGap (d : Dir) (s : State) : Host.Outcome State Fault Refusal :=
  match d with
  | .tx => .next (txGap s)
  | .rx => .next s

end Sys2Proof.Machine
end

