-- ==== Sys2Proof/Machine/Dispatch.lean ====
section
/-! DEFINITION. exec: one arm for each row of spec/opcode_table.json. -/

namespace Sys2Proof.Machine

def exec (i : Instr) (s : State) : Host.Outcome State Fault Refusal :=
  match i with
  | .pack => Sys2Proof.Machine.execPack s
  | .serialize => Sys2Proof.Machine.execSerialize s
  | .transmit => Sys2Proof.Machine.execTransmit s
  | .deserialize => Sys2Proof.Machine.execDeserialize s
  | .unpack => Sys2Proof.Machine.execUnpack s
  | .receive => Sys2Proof.Machine.execReceive s
  | .unassigned011 => Sys2Proof.Machine.execUnassigned011 s
  | .unassigned111 => Sys2Proof.Machine.execUnassigned111 s
  | .frameA d n m t f => Sys2Proof.Machine.execFrameA d n m t f s
  | .frameB d m t z f n => Sys2Proof.Machine.execFrameB d m t z f n s
  | .frameC d m f t n z => Sys2Proof.Machine.execFrameC d m f t n z s
  | .aModeOff d => Sys2Proof.Machine.execAModeOff d s
  | .aModeAuto d => Sys2Proof.Machine.execAModeAuto d s
  | .aModeDry d => Sys2Proof.Machine.execAModeDry d s
  | .aModeCool d => Sys2Proof.Machine.execAModeCool d s
  | .aModeFanOnly d => Sys2Proof.Machine.execAModeFanOnly d s
  | .aTemp d => Sys2Proof.Machine.execATemp d s
  | .aFanAuto d => Sys2Proof.Machine.execAFanAuto d s
  | .aFanLow d => Sys2Proof.Machine.execAFanLow d s
  | .aFanMedium d => Sys2Proof.Machine.execAFanMedium d s
  | .aFanHigh d => Sys2Proof.Machine.execAFanHigh d s
  | .aNightNone d => Sys2Proof.Machine.execANightNone d s
  | .aNightSleep d => Sys2Proof.Machine.execANightSleep d s
  | .bModeOff d => Sys2Proof.Machine.execBModeOff d s
  | .bModeAuto d => Sys2Proof.Machine.execBModeAuto d s
  | .bModeCool d => Sys2Proof.Machine.execBModeCool d s
  | .bModeDry d => Sys2Proof.Machine.execBModeDry d s
  | .bModeFanOnly d => Sys2Proof.Machine.execBModeFanOnly d s
  | .bModeHeat d => Sys2Proof.Machine.execBModeHeat d s
  | .bTemp d => Sys2Proof.Machine.execBTemp d s
  | .bFanAuto d => Sys2Proof.Machine.execBFanAuto d s
  | .bFanLow d => Sys2Proof.Machine.execBFanLow d s
  | .bFanMedium d => Sys2Proof.Machine.execBFanMedium d s
  | .bFanHigh d => Sys2Proof.Machine.execBFanHigh d s
  | .bNightNone d => Sys2Proof.Machine.execBNightNone d s
  | .bNightSleep d => Sys2Proof.Machine.execBNightSleep d s
  | .cModeOff d => Sys2Proof.Machine.execCModeOff d s
  | .cModeCool d => Sys2Proof.Machine.execCModeCool d s
  | .cModeDry d => Sys2Proof.Machine.execCModeDry d s
  | .cModeFanOnly d => Sys2Proof.Machine.execCModeFanOnly d s
  | .cModeHeat d => Sys2Proof.Machine.execCModeHeat d s
  | .cModeAuto d => Sys2Proof.Machine.execCModeAuto d s
  | .cTemp d => Sys2Proof.Machine.execCTemp d s
  | .cFanLow d => Sys2Proof.Machine.execCFanLow d s
  | .cFanMedium d => Sys2Proof.Machine.execCFanMedium d s
  | .cFanHigh d => Sys2Proof.Machine.execCFanHigh d s
  | .cFanAuto d => Sys2Proof.Machine.execCFanAuto d s
  | .cNightNone d => Sys2Proof.Machine.execCNightNone d s
  | .cNightSleep d => Sys2Proof.Machine.execCNightSleep d s
  | .symHeader d => Sys2Proof.Machine.execSymHeader d s
  | .symBit1 d => Sys2Proof.Machine.execSymBit1 d s
  | .symBit0 d => Sys2Proof.Machine.execSymBit0 d s
  | .symFinal d => Sys2Proof.Machine.execSymFinal d s
  | .symGap d => Sys2Proof.Machine.execSymGap d s
  | .reasonNone => Sys2Proof.Machine.execReasonNone s
  | .reasonHeaderMismatch => Sys2Proof.Machine.execReasonHeaderMismatch s
  | .reasonBitMismatch => Sys2Proof.Machine.execReasonBitMismatch s

end Sys2Proof.Machine
end

