-- ==== Sys2Proof/Machine/Fetch.lean ====
section
/-! DEFINITION. Fetching: the block's next host action, and the instruction a command's bytes hold. Bytes after the
instruction are not looked at (log 19). -/

namespace Sys2Proof.Machine

/-- The instruction a command word holds, if its bytes encode one. -/
def fetchInstr (word : List Byte) : Option Instr :=
  match decode word with
  | .ok (i, _) => some i
  | .error _ => none

/-- The host writes the four fields of CS (10_state.md R33, 44_commands.md R226). -/
def hostWriteCs (c : Climate) (s : State) : State := setCs c s

/-- The command word of a table row's bits, as the host would issue it. -/
def issue (nbits w : Nat) (s : State) : State := setInbox (.command (wordBytes nbits w) :: s.inbox) s

end Sys2Proof.Machine
end

