-- ==== Sys2Proof/Machine/Step.lean ====
section
/-! DEFINITION. One step: the next host action is carried out as a whole (20_memory.md R50). With no action waiting the
block is idle and nothing changes (44_commands.md R228, 70_reset_and_hazards.md R271). -/

namespace Sys2Proof.Machine

def step (s : State) : Host.Outcome State Fault Refusal :=
  match s.inbox with
  | [] => .next s
  | .writeCs c :: rest => .next (hostWriteCs c (setInbox rest s))
  | .burst pairs :: rest => .next (handBurst pairs (setInbox rest s))
  | .command word :: rest =>
    match fetchInstr word with
    | some i => exec i (setInbox rest s)
    | none => .refused (.notAnInstruction word)

/-- `s` with a table row's word issued as the host's next action. -/
def State.withFetchWord (s : State) (nbits w : Nat) : State := issue nbits w s

end Sys2Proof.Machine
end

