-- ==== Sys2Proof/Safety.lean ====
section
/-! DEFINITION. The terms of the claims: what a legal state, a usable build and a shaped transmission are, and the test
bench's functions that are no operation of the block. -/

namespace Sys2Proof.Machine

/-! ## Legal values -/

/-- The modes a revision supports (10_state.md R21). -/
abbrev Supported (r : Rev) (m : Mode) : Prop := ¬(r = .A ∧ m = .heat)

/-- The temperature domain (10_state.md R22). -/
abbrev InDomain (t : Int) : Prop := tempMin ≤ t ∧ t ≤ tempMax

/-- A state whose fields are in the domains of 10_state.md R21 to R23. -/
abbrev Climate.Valid (r : Rev) (c : Climate) : Prop := InDomain c.temp ∧ Supported r c.mode

/-- The three results of 42_deserialize.md R169, and the unspecified one before any RECEIVE (10_state.md R37). -/
abbrev Result.Legal (x : Result) : Prop :=
  match x.reason with
  | .none => x.ok = true → x.pos = nBits
  | .headerMismatch => x.ok = false ∧ x.pos = 0
  | .bitMismatch => x.ok = false ∧ x.pos < nBits

/-- Marks and spaces alternate, the first and the last item are marks (20_memory.md R53, 41_serialize.md R149 (b)). -/
def alternates : List Item → Bool
  | [.mark _] => true
  | .mark _ :: .space _ :: rest => alternates rest
  | _ => false

/-- The number of items of a transmission (30_encoding.md R82). -/
def itemCount : Rounds → Nat
  | .one => 145
  | .two => 291

/-- A committed sequence as 41_serialize.md R149 (a), (b) and R141 say it is. -/
structure Emission.Shaped (e : Emission) : Prop where
  carrier    : e.carrier = 38000
  alternates : alternates e.items = true
  length     : e.items.length = 145 ∨ e.items.length = 291

/-- The invariant of the machine. -/
structure State.Inv (s : State) : Prop where
  txf   : Memory.wf s.txf = true
  rxf   : Memory.wf s.rxf = true
  rd    : s.rd = 1 ∨ s.rd = 2
  k     : s.k ≤ nBits
  res   : s.res.Legal
  rxc   : s.rxc ≤ s.rxs.length
  emit  : ∀ e ∈ s.emit, e.Shaped
  pub   : ∀ c ∈ s.pub, c.Valid s.build.rev
  dec   : InDomain s.dec.temp

/-! ## Usable builds -/

/-- What 30_encoding.md R78 asks of a TIMING together with Match, and (M1) of 42_deserialize.md R161. -/
structure TimingUsable (T : Timing) (tol : Tolerance) : Prop where
  positive : 0 < T.hdrMark ∧ 0 < T.hdrSpace ∧ 0 < T.bitMark ∧ 0 < T.oneSpace ∧ 0 < T.zeroSpace ∧ 0 < T.finalMark ∧
    0 < T.gap
  differ   : T.oneSpace ≠ T.zeroSpace
  apart    : matchDuration tol T.oneSpace T.zeroSpace = false
  m1       : ∀ e, 0 < e → matchDuration tol e e = true

/-- The premises of the round trip (43_unpack.md R200; 93_implementation_defined.md U15). -/
structure BuildUsable (b : Build) : Prop where
  layout : (b.layout.get b.rev).WF b.rev
  timing : TimingUsable (b.timing.get b.rev) b.tol

/-! ## Transmissions as bursts and as durations -/

/-- Pairs(seq, idle) of 95_test_vectors.md section 0: a test-bench function, no operation of the block. -/
def pairs (idle : Nat) : List Item → List (Nat × Nat)
  | .mark m :: .space d :: rest => (m, d) :: pairs idle rest
  | [.mark m] => [(m, idle)]
  | _ => []

/-- The items of the last event of EMIT. -/
def lastItems (s : State) : List Item :=
  match s.emit.getLast? with
  | some e => e.items
  | none => []

/-- The last transmission handed back to the receive port as a burst. -/
def loopBack (idle : Nat) (s : State) : State := handBurst (pairs idle (lastItems s)) s

def Item.duration : Item → Nat
  | .mark d => d
  | .space d => d

def totalDuration (l : List Item) : Nat := (l.map Item.duration).sum

/-- The items of one round (30_encoding.md R82): header, Bit(F, 0) to Bit(F, 70), final mark. -/
def roundItems (T : Timing) (o : BitOrder) (m : Memory) : List Item :=
  [.mark T.hdrMark, .space T.hdrSpace] ++
    ((List.range 71).flatMap fun k =>
      [.mark T.bitMark, .space (if bitAt o m k then T.oneSpace else T.zeroSpace)]) ++
    [.mark T.finalMark]

/-- The items of a transmission (30_encoding.md R82): the gap stands between two rounds and nowhere else. -/
def transmissionItems (T : Timing) (L : Layout) (m : Memory) : List Item :=
  match L.rounds with
  | .one => roundItems T L.order m
  | .two => roundItems T L.order m ++ [.space T.gap] ++ roundItems T L.order m

/-- The number of 1 bits among positions 0..70 of a frame (41_serialize.md R149 (d)). -/
def onesSent (o : BitOrder) (m : Memory) : Nat := (List.range 71).countP fun k => bitAt o m k

/-- What a state comes back as (43_unpack.md R200): exception (a) the temperature of DRY in revision A, exception (b) the
fan of mode AUTO in revision C, and a clamped temperature. -/
def returned (r : Rev) (c : Climate) : Climate where
  mode := c.mode
  temp := if r = .A ∧ c.mode = .dry then 24 else clamp c.temp 18 30
  fan := if r = .C ∧ c.mode = .auto then .auto else c.fan
  preset := c.preset

/-! ## Bursts -/

/-- The bit one received pair is read as (42_deserialize.md R166): ONE first, then ZERO, `none` where neither matches. -/
def readPair (T : Timing) (tol : Tolerance) (p : Nat × Nat) : Option Bool :=
  if matchDuration tol T.bitMark p.1 && matchDuration tol T.oneSpace p.2 then some true
  else if matchDuration tol T.bitMark p.1 && matchDuration tol T.zeroSpace p.2 then some false
  else none

/-- The first pair of the burst is a header (42_deserialize.md R163). -/
def HeaderFirst (s : State) : Prop :=
  ∃ p, s.rxs[0]? = some p ∧ matchDuration s.build.tol (timing s).hdrMark p.1 = true ∧
    matchDuration s.build.tol (timing s).hdrSpace p.2 = true

/-- Data position `k` of the burst, the pair `k + 1`, reads as the bit `b`. -/
def PositionReads (s : State) (k : Nat) (b : Bool) : Prop :=
  ∃ p, s.rxs[k + 1]? = some p ∧ readPair (timing s) s.build.tol p = some b

/-- Data position `k` of the burst is missing or matches neither bit. -/
def PositionFails (s : State) (k : Nat) : Prop :=
  ∀ p, s.rxs[k + 1]? = some p → readPair (timing s) s.build.tol p = none

/-! ## Counting the calls of RX.expect (42_deserialize.md R170) -/

/-- The calls RX_BIT makes: one where the first test succeeds, else two. -/
def bitCalls (s : State) : Nat :=
  match rxExpect (timing s).bitMark (timing s).oneSpace s with
  | some _ => 1
  | none => 2

def scanCalls : Nat → State → Nat
  | 0, _ => 0
  | n + 1, s =>
    bitCalls s +
      match rxBit s with
      | .ok t => scanCalls n t
      | .error _ => 0

/-- The calls of RX.expect one DESERIALIZE makes. -/
def deserializeCalls (s : State) : Nat :=
  1 +
    match rxHeader (setRxf [] s) with
    | .ok t => scanCalls nBits (setK 0 t)
    | .error _ => 0

/-! ## Sequences of instructions -/

/-- Instructions run one after the other, up to the first that gives no next state. -/
def runAll : List Instr → State → Host.Outcome State Fault Refusal
  | [], s => .next s
  | i :: rest, s =>
    match exec i s with
    | .next t => runAll rest t
    | .fault f => .fault f
    | .refused f => .refused f

end Sys2Proof.Machine
end

