-- ==== Sys2Proof/Certificates/Slice0/Obligations.lean ====
section
/-! DEFINITION. The statements for the provers. The tables the rules write out stand first, copied from the rules and not
from the model's definitions; a statement about the reference layouts uses them. A log entry is notes/assumptions/<n>.md. Where a rule
named below carries the spec's own mark [derived] or [decision], the statement rests on that sentence of the spec and its
basis is 'derived'. -/

namespace Sys2Proof.Claims

open Sys2Proof.Machine

/-! ## What the rules write out -/

/-- The codes of 40_pack.md R106. -/
def modeByteA : Mode → Byte
  | .auto => 0x08
  | .dry => 0x10
  | .cool => 0x18
  | .fanOnly => 0x20
  | .off => 0x00
  | .heat => 0x00

/-- The codes of 40_pack.md R110. -/
def modeByteB : Mode → Byte
  | .auto => 0x01
  | .cool => 0x02
  | .dry => 0x04
  | .fanOnly => 0x08
  | .heat => 0x10
  | .off => 0x00

/-- The codes of 40_pack.md R114. -/
def modeByteC : Mode → Byte
  | .cool => 0x01
  | .dry => 0x02
  | .fanOnly => 0x03
  | .heat => 0x04
  | .auto => 0x05
  | .off => 0x00

/-- The codes of 40_pack.md R108. -/
def fanByteA : Fan → Byte
  | .low => 0x02
  | .medium => 0x03
  | .high => 0x04
  | .auto => 0x01

/-- The codes of 40_pack.md R112. -/
def fanByteB : Fan → Byte
  | .low => 0x02
  | .medium => 0x04
  | .high => 0x06
  | .auto => 0x00

/-- The codes of 40_pack.md R116. -/
def fanByteC : Fan → Byte
  | .low => 0x00
  | .medium => 0x10
  | .high => 0x20
  | .auto => 0x30

/-- 0x01 for SLEEP and 0x00 otherwise. -/
def nightByte : Preset → Byte
  | .sleep => 0x01
  | .none => 0x00

/-- `t − 15` as a byte. -/
def tempByte (t : Int) : Byte := BitVec.ofInt 8 (t - 15)

/-- The frame of 40_pack.md R120. -/
def frameA (c : Climate) : List Byte :=
  [0, 0, 0, 0, 0, nightByte c.preset, modeByteA c.mode,
    tempByte (if c.mode = .dry then 24 else clamp c.temp 18 30), fanByteA c.fan]

/-- The frame of 40_pack.md R121. -/
def frameB (c : Climate) : List Byte :=
  [0, 0, 0, 0, 0, 0, modeByteB c.mode, tempByte (clamp c.temp 18 30) <<< 4, fanByteB c.fan ||| nightByte c.preset]

/-- The frame of 40_pack.md R122. -/
def frameC (c : Climate) : List Byte :=
  [modeByteC c.mode, tempByte (clamp c.temp 18 30) ||| (if c.mode = .auto then 0x30 else fanByteC c.fan),
    nightByte c.preset, 0, 0, 0, 0, 0, 0]

/-- The case of 43_unpack.md R181, on byte 6. -/
def modeFromA (v : Byte) : Mode :=
  if v = 0x08 then .auto else if v = 0x10 then .dry else if v = 0x18 then .cool else if v = 0x20 then .fanOnly else .off

/-- The case of 43_unpack.md R185, on byte 6 under its mask. -/
def modeFromB (v : Byte) : Mode :=
  if v &&& 0x1F = 0x01 then .auto else if v &&& 0x1F = 0x02 then .cool else if v &&& 0x1F = 0x04 then .dry
  else if v &&& 0x1F = 0x08 then .fanOnly else if v &&& 0x1F = 0x10 then .heat else .off

/-- The case of 43_unpack.md R189, on byte 0 under its mask. -/
def modeFromC (v : Byte) : Mode :=
  if v &&& 0x07 = 0x01 then .cool else if v &&& 0x07 = 0x02 then .dry else if v &&& 0x07 = 0x03 then .fanOnly
  else if v &&& 0x07 = 0x04 then .heat else if v &&& 0x07 = 0x05 then .auto else .off

/-- The case of 43_unpack.md R183, on byte 8 and the prior fan. -/
def fanFromA (v : Byte) (prior : Fan) : Fan :=
  if v = 0x01 then .auto else if v = 0x02 then .low else if v = 0x03 then .medium else if v = 0x04 then .high else prior

/-- The case of 43_unpack.md R187, on byte 8 under its mask and the prior fan. -/
def fanFromB (v : Byte) (prior : Fan) : Fan :=
  if v &&& 0x0E = 0x00 then .auto else if v &&& 0x0E = 0x02 then .low else if v &&& 0x0E = 0x04 then .medium
  else if v &&& 0x0E = 0x06 then .high else prior

/-- The case of 43_unpack.md R191, on byte 1 under its mask. -/
def fanFromC (v : Byte) (prior : Fan) : Fan :=
  if v &&& 0x30 = 0x00 then .low else if v &&& 0x30 = 0x10 then .medium else if v &&& 0x30 = 0x20 then .high
  else if v &&& 0x30 = 0x30 then .auto else prior

/-- `if (v & 0x01) ≠ 0 then SLEEP else NONE`. -/
def presetFrom (v : Byte) : Preset := if v &&& 0x01 = 0x00 then .none else .sleep

/-- `clamp(field + 15, 18, 30)` of 43_unpack.md R194. -/
def tempFrom (field : Byte) : Int := clamp (field.toNat + 15) 18 30

/-- The temperature decode table of 43_unpack.md R195. -/
def tempTable : List Int := [18, 18, 18, 18, 19, 20, 21, 22, 23, 24, 25, 26, 27, 28, 29, 30]

/-! ## The shapes of the statements about one row -/

/-- The row ORs `v` into byte `b` of TXF where `taken`, and leaves the state as it is otherwise. Every other byte of TXF and
every other field of the state is as before. -/
def Sends (o : Host.Outcome State Fault Refusal) (s : State) (taken : Prop) (b : Nat) (v : Byte) : Prop :=
  ∃ t, o = .next t ∧ t = setTxf t.txf s ∧
    (taken → readByte t.txf b = readByte s.txf b ||| v ∧ ∀ j, j ≠ b → readByte t.txf j = readByte s.txf j) ∧
    (¬taken → t = s)

/-- The row writes the decoder's result `c` where `taken`, and leaves the state as it is otherwise. -/
def Decodes (o : Host.Outcome State Fault Refusal) (s : State) (taken : Prop) (c : Climate) : Prop :=
  ∃ t, o = .next t ∧ (taken → t = setDec c s) ∧ (¬taken → t = s)

/-- The mask of the byte `j` that the four regions of a layout cover. -/
def regionMask (L : Layout) (j : Nat) : Byte :=
  (L.regions.map fun p => if p.1.val = j then p.2 else 0).foldl (· ||| ·) 0

/-- The FIELD rows of a revision, in the table's order, as they are sent or received. -/
def rowsA (d : Dir) : List Instr :=
  [.aModeOff d, .aModeAuto d, .aModeDry d, .aModeCool d, .aModeFanOnly d, .aTemp d, .aFanAuto d, .aFanLow d,
    .aFanMedium d, .aFanHigh d, .aNightNone d, .aNightSleep d]

def rowsB (d : Dir) : List Instr :=
  [.bModeOff d, .bModeAuto d, .bModeCool d, .bModeDry d, .bModeFanOnly d, .bModeHeat d, .bTemp d, .bFanAuto d,
    .bFanLow d, .bFanMedium d, .bFanHigh d, .bNightNone d, .bNightSleep d]

def rowsC (d : Dir) : List Instr :=
  [.cModeOff d, .cModeCool d, .cModeDry d, .cModeFanOnly d, .cModeHeat d, .cModeAuto d, .cTemp d, .cFanLow d,
    .cFanMedium d, .cFanHigh d, .cFanAuto d, .cNightNone d, .cNightSleep d]

def rowsOf : Rev → Dir → List Instr
  | .A => rowsA
  | .B => rowsB
  | .C => rowsC

/-- The frame format row of a revision with every field 0. -/
def zeroFrame : Rev → Instr
  | .A => .frameA .tx 0 0 0 0
  | .B => .frameB .tx 0 0 0 0 0
  | .C => .frameC .tx 0 0 0 0 0

/-- The instructions that write RES: DESERIALIZE, RECEIVE, and the rows that are steps or ends of DESERIALIZE. -/
def resWriters : List Instr :=
  [.deserialize, .receive, .symHeader .rx, .symBit1 .rx, .symBit0 .rx, .reasonNone, .reasonHeaderMismatch,
    .reasonBitMismatch]

/-- The two states differ at most in the transmit side's state. -/
def SameButTransmitSide (s t : State) : Prop :=
  t = { s with txf := t.txf, rd := t.rd, k := t.k, txcar := t.txcar, txseq := t.txseq, emit := t.emit }

/-- The two states differ at most in the receive side's state and in CS. -/
def SameButReceiveSide (s t : State) : Prop :=
  t = { s with rxf := t.rxf, k := t.k, res := t.res, aux := t.aux, rxc := t.rxc, cs := t.cs, dec := t.dec, pub := t.pub }

end Sys2Proof.Claims

open Sys2Proof Sys2Proof.Machine Sys2Proof.Claims

/-! ## Reset, the host's actions, the command port -/

/-- After reset the ports are empty, and until the host does something nothing happens (10_state.md R37, 70_reset_and_hazards.md
R270, R271). -/
def Obligations.ResetPortsAreEmptyAndTheBlockIsIdle : Prop :=
  State.reset.emit = [] ∧ State.reset.pub = [] ∧ State.reset.txseq = [] ∧ State.reset.rxs = [] ∧ State.reset.rxc = 0 ∧
    State.reset.inbox = [] ∧ ∀ s : State, s.inbox = [] → step s = .next s

/-- The host's writes of CS and its handing over of a burst, which puts the cursor at 0 (10_state.md R31, R33). That they come
from the list `inbox` is the model's choice (log 13). -/
def Obligations.HostWritesAndBurstsAreCarriedOut : Prop :=
  ∀ (s : State) (rest : List HostAct),
    (∀ c, s.inbox = .writeCs c :: rest → step s = .next (setCs c (setInbox rest s))) ∧
    (∀ l, s.inbox = .burst l :: rest → step s = .next (setRxc 0 (setRxs l (setInbox rest s))))

/-- A step whose next host action is a command word runs the instruction the word decodes to, on the state with the action
taken off the list, and nothing else; a word that encodes no instruction is refused (logs 13 and 19). -/
def Obligations.StepRunsTheDecodedInstruction : Prop :=
  ∀ (s : State) (word : List Byte) (rest : List HostAct), s.inbox = .command word :: rest →
    (∀ i left, decode word = .ok (i, left) → i.WellFormed ∧ step s = exec i (setInbox rest s)) ∧
    (∀ e, decode word = .error e → step s = .refused (.notAnInstruction word))

/-- A few words written out from the table's encodings (30_encoding.md R87, R62; 60_exceptions.md R245) in the model's word
format (log 1). -/
def Obligations.TableWordsDecodeToTheirRows : Prop :=
  decode [0b000] = .ok (.pack, []) ∧ decode [0b001] = .ok (.serialize, []) ∧ decode [0b010] = .ok (.transmit, []) ∧
  decode [0b011] = .ok (.unassigned011, []) ∧ decode [0b100] = .ok (.deserialize, []) ∧
  decode [0b101] = .ok (.unpack, []) ∧ decode [0b110] = .ok (.receive, []) ∧
  decode [0b111] = .ok (.unassigned111, []) ∧
  decode [0x18, 6, 0xFF, 0x18] = .ok (.aModeCool .tx, []) ∧ decode [0x24, 8, 0x0E, 0x06] = .ok (.bFanHigh .rx, []) ∧
  decode [0x28, 2, 0x01, 0x01] = .ok (.cNightSleep .tx, []) ∧ decode [0x14, 2] = .ok (.symBit0 .rx, []) ∧
  decode [0x0A] = .ok (.reasonBitMismatch, []) ∧
  decode [0x30, 0, 0, 0, 0, 0, 0, 0x18, 0x08, 0x03] = .ok (.frameA .tx 0 0x18 8 0x03, []) ∧
  decode [0x0B] = .error .unknownRow ∧ decode [0x18, 6] = .error .truncated ∧
  decode [0xFF] = .error (.unknownFormat 0xFF) ∧ decode [] = .error .empty

/-- Decode and encode agree: every well-formed instruction, with every operand at every value, is read back from its word,
whatever bytes follow. -/
def Obligations.DecodeOfEncodeIsTheInstruction : Prop :=
  ∀ (i : Instr) (rest : List Byte), i.WellFormed → decode (encode i ++ rest) = .ok (i, rest)

/-- What the decoder gives is well-formed, and it takes exactly as many bytes as the encoder writes. -/
def Obligations.DecodedInstructionsAreWellFormedAndExact : Prop :=
  ∀ (bytes : List Byte) (i : Instr) (rest : List Byte), decode bytes = .ok (i, rest) →
    i.WellFormed ∧ ∃ used, bytes = used ++ rest ∧ used.length = (encode i).length

/-- The codes 011 and 111 are refused, whatever the state (30_encoding.md R87). -/
def Obligations.UnassignedCodesAreRefused : Prop :=
  ∀ s : State, exec .unassigned011 s = .refused (.unassignedCode 0b011) ∧
    exec .unassigned111 s = .refused (.unassignedCode 0b111)

/-- The reference layouts satisfy WF and the reference timings the constraints of 30_encoding.md R78. -/
def Obligations.ReferenceBuildsAreUsable : Prop := ∀ r : Rev, BuildUsable (referenceBuild r)

/-- Under WF, revisions A and B send LSB first (20_memory.md R43's two derivations). -/
def Obligations.WellFormedLayoutsOfAAndBAreLsbFirst : Prop :=
  ∀ L : Layout, (L.WF .A ∨ L.WF .B) → L.order = .lsb

/-! ## PACK -/

/-- PACK in revision A with the reference layout: the closed form of 40_pack.md R120; nothing but TXF changes. -/
def Obligations.PackAGivesTheClosedForm : Prop :=
  ∀ s : State, s.build.rev = .A → s.build.layout.a = layoutA →
    ∃ m, exec .pack s = .next (setTxf m s) ∧ frameBytes m = frameA s.cs ∧ Memory.wf m = true

/-- PACK in revision B with the reference layout: the closed form of 40_pack.md R121; nothing but TXF changes. -/
def Obligations.PackBGivesTheClosedForm : Prop :=
  ∀ s : State, s.build.rev = .B → s.build.layout.b = layoutB →
    ∃ m, exec .pack s = .next (setTxf m s) ∧ frameBytes m = frameB s.cs ∧ Memory.wf m = true

/-- PACK in revision C with the reference layout: the closed form of 40_pack.md R122; nothing but TXF changes. -/
def Obligations.PackCGivesTheClosedForm : Prop :=
  ∀ s : State, s.build.rev = .C → s.build.layout.c = layoutC →
    ∃ m, exec .pack s = .next (setTxf m s) ∧ frameBytes m = frameC s.cs ∧ Memory.wf m = true

/-- PACK under any well-formed layout: each of the four regions holds its field's bits, every bit outside them is 0
(30_encoding.md R83), the never-sent bit is 0, and OFF in revision C gives byte 0 the value 0 (00_scope.md R9); nothing but
TXF changes. -/
def Obligations.PackPlacesEveryFieldUnderAnyLayout : Prop :=
  ∀ s : State, (layout s).WF s.build.rev →
    ∃ m, exec .pack s = .next (setTxf m s) ∧ Memory.wf m = true ∧
      readByte m (layout s).modeByte &&& (layout s).modeMask = (modeCode s.build.rev (layout s) s.cs.mode).getD 0 ∧
      readByte m (layout s).tempByte &&& (layout s).tempMask =
        BitVec.ofInt 8 (sentTemp s.build.rev s.cs - 15) <<< (layout s).tempShift ∧
      readByte m (layout s).fanByte &&& (layout s).fanMask = fanCode (layout s) (sentFan s.build.rev s.cs) ∧
      readByte m (layout s).nightByte &&& (layout s).nightMask =
        (if s.cs.preset = .sleep then (layout s).nightMask else 0) ∧
      (∀ j, readByte m j &&& ~~~(regionMask (layout s) j) = 0) ∧
      bitAt (layout s).order m 71 = false ∧
      (s.build.rev = .C → s.cs.mode = .off → readByte m 0 = 0)

/-- PACK is a function of REV and CS alone, the build being fixed: it reads no buffer, no port and no earlier result, and it
sets all nine bytes (40_pack.md R118). -/
def Obligations.PackDependsOnRevAndCsAlone : Prop :=
  ∀ s s' : State, s.build = s'.build → s.cs = s'.cs →
    ∃ m, Memory.wf m = true ∧ exec .pack s = .next (setTxf m s) ∧ exec .pack s' = .next (setTxf m s')

/-- PACK encodes `tc`: 18 below 18, 30 above 30, and the temperature itself between. The temperature region holds `tc − 15` in
its place, or `24 − 15` for DRY in revision A (40_pack.md R101, R104, R107); CS.temp = tc gives the same TXF; and CS.temp keeps
its value. -/
def Obligations.TemperatureIsClampedOnACopy : Prop :=
  ∀ (s : State) (tc : Int),
    ((s.cs.temp < 18 ∧ tc = 18) ∨ (30 < s.cs.temp ∧ tc = 30) ∨ (18 ≤ s.cs.temp ∧ s.cs.temp ≤ 30 ∧ tc = s.cs.temp)) →
    ∃ t, exec .pack s = .next t ∧ t.cs.temp = s.cs.temp ∧
      exec .pack (setCs { s.cs with temp := tc } s) = .next (setCs { s.cs with temp := tc } t) ∧
      ((layout s).WF s.build.rev → readByte t.txf (layout s).tempByte &&& (layout s).tempMask =
        BitVec.ofInt 8 ((if s.build.rev = .A ∧ s.cs.mode = .dry then 24 else tc) - 15) <<< (layout s).tempShift)

/-- The temperature field of an encoded temperature: 3..15, equal to t − 15, and no bit lost by a shift of at most 4
(40_pack.md R104). -/
def Obligations.TempFieldFitsFourBits : Prop :=
  ∀ t : Int, 18 ≤ t → t ≤ 30 →
    3 ≤ (tempField t).toNat ∧ (tempField t).toNat ≤ 15 ∧ ((tempField t).toNat : Int) = t - 15 ∧
      ∀ sh, sh ≤ 4 → (tempField t <<< sh).toNat = (tempField t).toNat * 2 ^ sh

/-! ## The FIELD rows -/

/-- The transmit side of the FIELD.A rows (40_pack.md R106 to R109), each with its frame; the reference layout. That a row runs on its
own, and with the layout of A whatever REV is, is the model's choice (logs 2 and 3). -/
def Obligations.FieldRowsOfASendTheirArm : Prop :=
  ∀ s : State, s.build.layout.a = layoutA →
    Sends (exec (.aModeOff .tx) s) s False 6 0x00 ∧
    Sends (exec (.aModeAuto .tx) s) s (s.cs.mode = .auto) 6 0x08 ∧
    Sends (exec (.aModeDry .tx) s) s (s.cs.mode = .dry) 6 0x10 ∧
    Sends (exec (.aModeCool .tx) s) s (s.cs.mode = .cool) 6 0x18 ∧
    Sends (exec (.aModeFanOnly .tx) s) s (s.cs.mode = .fanOnly) 6 0x20 ∧
    Sends (exec (.aTemp .tx) s) s True 7 (tempByte (if s.cs.mode = .dry then 24 else clamp s.cs.temp 18 30)) ∧
    Sends (exec (.aFanAuto .tx) s) s (s.cs.fan = .auto) 8 0x01 ∧
    Sends (exec (.aFanLow .tx) s) s (s.cs.fan = .low) 8 0x02 ∧
    Sends (exec (.aFanMedium .tx) s) s (s.cs.fan = .medium) 8 0x03 ∧
    Sends (exec (.aFanHigh .tx) s) s (s.cs.fan = .high) 8 0x04 ∧
    Sends (exec (.aNightNone .tx) s) s False 5 0x00 ∧
    Sends (exec (.aNightSleep .tx) s) s (s.cs.preset = .sleep) 5 0x01

/-- The transmit side of the FIELD.B rows (40_pack.md R110 to R113), each with its frame; the reference layout. That a row runs on its
own, and with the layout of B whatever REV is, is the model's choice (logs 2 and 3). -/
def Obligations.FieldRowsOfBSendTheirArm : Prop :=
  ∀ s : State, s.build.layout.b = layoutB →
    Sends (exec (.bModeOff .tx) s) s False 6 0x00 ∧
    Sends (exec (.bModeAuto .tx) s) s (s.cs.mode = .auto) 6 0x01 ∧
    Sends (exec (.bModeCool .tx) s) s (s.cs.mode = .cool) 6 0x02 ∧
    Sends (exec (.bModeDry .tx) s) s (s.cs.mode = .dry) 6 0x04 ∧
    Sends (exec (.bModeFanOnly .tx) s) s (s.cs.mode = .fanOnly) 6 0x08 ∧
    Sends (exec (.bModeHeat .tx) s) s (s.cs.mode = .heat) 6 0x10 ∧
    Sends (exec (.bTemp .tx) s) s True 7 (tempByte (clamp s.cs.temp 18 30) <<< 4) ∧
    Sends (exec (.bFanAuto .tx) s) s (s.cs.fan = .auto) 8 0x00 ∧
    Sends (exec (.bFanLow .tx) s) s (s.cs.fan = .low) 8 0x02 ∧
    Sends (exec (.bFanMedium .tx) s) s (s.cs.fan = .medium) 8 0x04 ∧
    Sends (exec (.bFanHigh .tx) s) s (s.cs.fan = .high) 8 0x06 ∧
    Sends (exec (.bNightNone .tx) s) s False 8 0x00 ∧
    Sends (exec (.bNightSleep .tx) s) s (s.cs.preset = .sleep) 8 0x01

/-- The transmit side of the FIELD.C rows (40_pack.md R114 to R117), each with its frame; the reference layout. Mode AUTO
takes the fan AUTO arm whatever CS.fan is. That a row runs on its own, and with the layout of C whatever REV is, is the model's
choice (logs 2 and 3). -/
def Obligations.FieldRowsOfCSendTheirArm : Prop :=
  ∀ s : State, s.build.layout.c = layoutC →
    Sends (exec (.cModeOff .tx) s) s False 0 0x00 ∧
    Sends (exec (.cModeCool .tx) s) s (s.cs.mode = .cool) 0 0x01 ∧
    Sends (exec (.cModeDry .tx) s) s (s.cs.mode = .dry) 0 0x02 ∧
    Sends (exec (.cModeFanOnly .tx) s) s (s.cs.mode = .fanOnly) 0 0x03 ∧
    Sends (exec (.cModeHeat .tx) s) s (s.cs.mode = .heat) 0 0x04 ∧
    Sends (exec (.cModeAuto .tx) s) s (s.cs.mode = .auto) 0 0x05 ∧
    Sends (exec (.cTemp .tx) s) s True 1 (tempByte (clamp s.cs.temp 18 30)) ∧
    Sends (exec (.cFanLow .tx) s) s (s.cs.mode ≠ .auto ∧ s.cs.fan = .low) 1 0x00 ∧
    Sends (exec (.cFanMedium .tx) s) s (s.cs.mode ≠ .auto ∧ s.cs.fan = .medium) 1 0x10 ∧
    Sends (exec (.cFanHigh .tx) s) s (s.cs.mode ≠ .auto ∧ s.cs.fan = .high) 1 0x20 ∧
    Sends (exec (.cFanAuto .tx) s) s (s.cs.mode = .auto ∨ s.cs.fan = .auto) 1 0x30 ∧
    Sends (exec (.cNightNone .tx) s) s False 2 0x00 ∧
    Sends (exec (.cNightSleep .tx) s) s (s.cs.preset = .sleep) 2 0x01

/-- The receive side of the FIELD.A rows (43_unpack.md R181 to R184), each with its frame; the reference layout. A mode or fan
row takes its own arm or the default arm it stands for. That a row runs on its own, writes m, t, f, p, and uses the layout of A
whatever REV is, is the model's choice (logs 2, 3 and 16). -/
def Obligations.FieldRowsOfADecodeTheirArm : Prop :=
  ∀ s : State, s.build.layout.a = layoutA →
    (∀ p : Instr × Mode, p ∈ [(.aModeOff .rx, .off), (.aModeAuto .rx, .auto), (.aModeDry .rx, .dry),
        (.aModeCool .rx, .cool), (.aModeFanOnly .rx, .fanOnly)] →
      Decodes (exec p.1 s) s (modeFromA (readByte s.rxf 6) = p.2) { s.dec with mode := p.2 }) ∧
    Decodes (exec (.aTemp .rx) s) s True { s.dec with temp := tempFrom (readByte s.rxf 7 &&& 0x0F) } ∧
    (∀ p : Instr × Fan, p ∈ [(.aFanAuto .rx, .auto), (.aFanLow .rx, .low), (.aFanMedium .rx, .medium),
        (.aFanHigh .rx, .high)] →
      Decodes (exec p.1 s) s (fanFromA (readByte s.rxf 8) p.2 = p.2)
        { s.dec with fan := fanFromA (readByte s.rxf 8) s.cs.fan }) ∧
    Decodes (exec (.aNightNone .rx) s) s (readByte s.rxf 5 &&& 0x01 = 0) { s.dec with preset := .none } ∧
    Decodes (exec (.aNightSleep .rx) s) s (readByte s.rxf 5 &&& 0x01 ≠ 0) { s.dec with preset := .sleep }

/-- The receive side of the FIELD.B rows (43_unpack.md R185 to R188), each with its frame; the reference layout. That a row runs on its
own, writes m, t, f, p, and uses the layout of B whatever REV is, is the model's choice (logs 2, 3 and 16). -/
def Obligations.FieldRowsOfBDecodeTheirArm : Prop :=
  ∀ s : State, s.build.layout.b = layoutB →
    (∀ p : Instr × Mode, p ∈ [(.bModeOff .rx, .off), (.bModeAuto .rx, .auto), (.bModeCool .rx, .cool),
        (.bModeDry .rx, .dry), (.bModeFanOnly .rx, .fanOnly), (.bModeHeat .rx, .heat)] →
      Decodes (exec p.1 s) s (modeFromB (readByte s.rxf 6) = p.2) { s.dec with mode := p.2 }) ∧
    Decodes (exec (.bTemp .rx) s) s True { s.dec with temp := tempFrom (readByte s.rxf 7 >>> 4) } ∧
    (∀ p : Instr × Fan, p ∈ [(.bFanAuto .rx, .auto), (.bFanLow .rx, .low), (.bFanMedium .rx, .medium),
        (.bFanHigh .rx, .high)] →
      Decodes (exec p.1 s) s (fanFromB (readByte s.rxf 8) p.2 = p.2)
        { s.dec with fan := fanFromB (readByte s.rxf 8) s.cs.fan }) ∧
    Decodes (exec (.bNightNone .rx) s) s (readByte s.rxf 8 &&& 0x01 = 0) { s.dec with preset := .none } ∧
    Decodes (exec (.bNightSleep .rx) s) s (readByte s.rxf 8 &&& 0x01 ≠ 0) { s.dec with preset := .sleep }

/-- The receive side of the FIELD.C rows (43_unpack.md R189 to R192), each with its frame; the reference layout. That a row runs on its
own, writes m, t, f, p, and uses the layout of C whatever REV is, is the model's choice (logs 2, 3 and 16). -/
def Obligations.FieldRowsOfCDecodeTheirArm : Prop :=
  ∀ s : State, s.build.layout.c = layoutC →
    (∀ p : Instr × Mode, p ∈ [(.cModeOff .rx, .off), (.cModeCool .rx, .cool), (.cModeDry .rx, .dry),
        (.cModeFanOnly .rx, .fanOnly), (.cModeHeat .rx, .heat), (.cModeAuto .rx, .auto)] →
      Decodes (exec p.1 s) s (modeFromC (readByte s.rxf 0) = p.2) { s.dec with mode := p.2 }) ∧
    Decodes (exec (.cTemp .rx) s) s True { s.dec with temp := tempFrom (readByte s.rxf 1 &&& 0x0F) } ∧
    (∀ p : Instr × Fan, p ∈ [(.cFanLow .rx, .low), (.cFanMedium .rx, .medium), (.cFanHigh .rx, .high),
        (.cFanAuto .rx, .auto)] →
      Decodes (exec p.1 s) s (fanFromC (readByte s.rxf 1) p.2 = p.2)
        { s.dec with fan := fanFromC (readByte s.rxf 1) s.cs.fan }) ∧
    Decodes (exec (.cNightNone .rx) s) s (readByte s.rxf 2 &&& 0x01 = 0) { s.dec with preset := .none } ∧
    Decodes (exec (.cNightSleep .rx) s) s (readByte s.rxf 2 &&& 0x01 ≠ 0) { s.dec with preset := .sleep }

/-- PACK is its rows: a frame row of zeros and then the FIELD rows of REV on the transmit side, in the table's order, leave
exactly the state PACK leaves (40_pack.md R100), under any layout. Rows as commands, and what a frame row loads, are the model's
choice (logs 2 and 18). -/
def Obligations.FieldRowsInOrderArePack : Prop :=
  ∀ s : State, runAll (zeroFrame s.build.rev :: rowsOf s.build.rev .tx) s = exec .pack s

/-- UNPACK's field steps are its rows: the FIELD rows of REV on the receive side, in the table's order, leave in m, t, f, p
the state UNPACK writes to CS (43_unpack.md R180), under any layout. Rows as commands are the model's choice (logs 2 and 16). -/
def Obligations.FieldRowsInOrderAreUnpack : Prop :=
  ∀ s : State, ∃ t u, runAll (rowsOf s.build.rev .rx) s = .next t ∧ exec .unpack s = .next u ∧
    t = setDec u.cs s

/-! ## The frame rows -/

/-- A frame row puts the nine bytes of its format into TXF on the transmit side and into RXF on the receive side, where the
never-sent bit reads 0; nothing else changes (30_encoding.md R62, R67, R72; log 18). -/
def Obligations.FrameRowsLoadTheirFormat : Prop :=
  ∀ s : State,
    (∀ (n : BitVec 1) (m : BitVec 8) (t : BitVec 4) (f : BitVec 8), ∃ x y,
      exec (.frameA .tx n m t f) s = .next (setTxf x s) ∧ exec (.frameA .rx n m t f) s = .next (setRxf y s) ∧
      Memory.wf x = true ∧ Memory.wf y = true ∧
      frameBytes x = [0, 0, 0, 0, 0, 0#7 ++ n, m, 0#4 ++ t, f] ∧
      frameBytes y = [0, 0, 0, 0, 0, 0#7 ++ n, m, 0#4 ++ t, 0#1 ++ f.extractLsb' 0 7]) ∧
    (∀ (m : BitVec 5) (t : BitVec 4) (z : BitVec 1) (f : BitVec 3) (n : BitVec 1), ∃ x y,
      exec (.frameB .tx m t z f n) s = .next (setTxf x s) ∧ exec (.frameB .rx m t z f n) s = .next (setRxf y s) ∧
      Memory.wf x = true ∧ Memory.wf y = true ∧
      frameBytes x = [0, 0, 0, 0, 0, 0, 0#3 ++ m, t ++ 0#4, z ++ 0#3 ++ f ++ n] ∧
      frameBytes y = [0, 0, 0, 0, 0, 0, 0#3 ++ m, t ++ 0#4, 0#4 ++ f ++ n]) ∧
    (∀ (m : BitVec 3) (f : BitVec 2) (t : BitVec 4) (n : BitVec 1) (z : BitVec 1), ∃ x y,
      exec (.frameC .tx m f t n z) s = .next (setTxf x s) ∧ exec (.frameC .rx m f t n z) s = .next (setRxf y s) ∧
      Memory.wf x = true ∧ Memory.wf y = true ∧
      frameBytes x = [0#5 ++ m, 0#2 ++ f ++ t, 0#7 ++ n, 0, 0, 0, 0, 0, 0#7 ++ z] ∧
      frameBytes y = [0#5 ++ m, 0#2 ++ f ++ t, 0#7 ++ n, 0, 0, 0, 0, 0, 0])

/-! ## SERIALIZE and the symbol rows' transmit side -/

/-- SERIALIZE: one event with the carrier and the rounds of 30_encoding.md R82, the sequencer at (ROUNDS, 71), nothing else
changed (41_serialize.md R140; 38000 is the spec's decision D9, the polarity its decision D27). That TXSEQ holds the items after
the commit is the model's choice (log 9). -/
def Obligations.SerializeCommitsTheRounds : Prop :=
  ∀ s : State, exec .serialize s = .next
    { s with
      txcar := 38000
      txseq := transmissionItems (timing s) (layout s) s.txf
      emit := s.emit ++ [⟨38000, transmissionItems (timing s) (layout s) s.txf⟩]
      rd := match (layout s).rounds with
        | .one => 1
        | .two => 2
      k := 71 }

/-- The bit a position of the wire carries: byte `k div 8`, bit `k mod 8` where the order is LSB and bit `7 - k mod 8` where it
is MSB (20_memory.md R44, R45). -/
def Obligations.BitOfAPositionByOrder : Prop :=
  ∀ (m : Memory) (byte slot : Nat), slot < 8 →
    bitAt .lsb m (8 * byte + slot) = (readByte m byte).getLsbD slot ∧
    bitAt .msb m (8 * byte + slot) = (readByte m byte).getMsbD slot

/-- The shape of every committed sequence: its length, the alternation, and the sum of its durations (41_serialize.md R149 (a),
(b), (e)). -/
def Obligations.CommittedSequencesAreShaped : Prop :=
  ∀ s : State, ∃ t items, exec .serialize s = .next t ∧ t.emit = s.emit ++ [⟨38000, items⟩] ∧
    items.length = itemCount (layout s).rounds ∧ alternates items = true ∧
    ∀ round, round = (timing s).hdrMark + (timing s).hdrSpace + 71 * (timing s).bitMark +
        onesSent (layout s).order s.txf * (timing s).oneSpace +
        (71 - onesSent (layout s).order s.txf) * (timing s).zeroSpace + (timing s).finalMark →
      totalDuration items =
        match (layout s).rounds with
        | .one => round
        | .two => round + (timing s).gap + round

/-- The never-sent bit does not reach the wire: two frames that agree on positions 0..70 give the same items
(41_serialize.md R145). -/
def Obligations.SkippedBitIsNotSent : Prop :=
  ∀ (s : State) (m : Memory), (∀ k, k < 71 → bitAt (layout s).order m k = bitAt (layout s).order s.txf k) →
    ∃ t u, exec .serialize s = .next t ∧ exec .serialize (setTxf m s) = .next u ∧ t.txseq = u.txseq ∧ t.emit = u.emit

/-- The transmit side of the symbol rows (41_serialize.md R142, R143, R146, R147): what each appends to TXSEQ, and nothing
else; and SYM.FINAL and SYM.GAP are not examined on receive (42_deserialize.md R168; log 20). -/
def Obligations.SymbolRowsAppendTheirItems : Prop :=
  ∀ s : State,
    exec (.symHeader .tx) s =
      .next (setTxseq (s.txseq ++ [.mark (timing s).hdrMark, .space (timing s).hdrSpace]) s) ∧
    exec (.symBit1 .tx) s = .next (setTxseq (s.txseq ++ [.mark (timing s).bitMark, .space (timing s).oneSpace]) s) ∧
    exec (.symBit0 .tx) s = .next (setTxseq (s.txseq ++ [.mark (timing s).bitMark, .space (timing s).zeroSpace]) s) ∧
    exec (.symFinal .tx) s = .next (setTxseq (s.txseq ++ [.mark (timing s).finalMark]) s) ∧
    (s.rd = 1 → (layout s).rounds = .two → exec (.symGap .tx) s = .next (setTxseq (s.txseq ++ [.space (timing s).gap]) s)) ∧
    (s.rd = 1 → (layout s).rounds = .one → exec (.symGap .tx) s = .next s) ∧
    (s.rd = 2 → exec (.symGap .tx) s = .next s) ∧
    exec (.symFinal .rx) s = .next s ∧ exec (.symGap .rx) s = .next s

/-! ## DESERIALIZE and the symbol rows' receive side -/

/-- The reference Match: within 25 per cent, inclusive, and (M1) (42_deserialize.md R161). -/
def Obligations.ReferenceMatchIsAQuarter : Prop :=
  ∀ e o : Nat, (matchDuration .reference e o = true ↔ 3 * e ≤ 4 * o ∧ 4 * o ≤ 5 * e) ∧
    matchDuration .reference e e = true

/-- SYM.HEADER on the receive side: RX_HEADER of 42_deserialize.md R163, on the first pair of the burst wherever the cursor
stood, with its rejection of 60_exceptions.md R241 (logs 2 and 14). -/
def Obligations.HeaderRowExpectsOrRejects : Prop :=
  ∀ s : State,
    (HeaderFirst s → exec (.symHeader .rx) s = .next (setRxc 1 s)) ∧
    (¬HeaderFirst s → exec (.symHeader .rx) s = .next (setRes ⟨false, .headerMismatch, 0⟩ (setRxc 0 s)))

/-- SYM.BIT1 and SYM.BIT0 on the receive side: each takes its arm of RX_BIT (42_deserialize.md R166), both reject where neither
test succeeds (60_exceptions.md R242), and after position 70 nothing happens (log 17). -/
def Obligations.BitRowsTakeTheirArmOfRxBit : Prop :=
  ∀ s : State,
    (∀ p, s.k < 71 → s.rxs[s.rxc]? = some p → readPair (timing s) s.build.tol p = some true →
      (∃ m, exec (.symBit1 .rx) s = .next (setRxc (s.rxc + 1) (setK (s.k + 1) (setRxf m s))) ∧
        ∀ j, bitAt (layout s).order m j = (bitAt (layout s).order s.rxf j || decide (j = s.k))) ∧
      exec (.symBit0 .rx) s = .next s) ∧
    (∀ p, s.k < 71 → s.rxs[s.rxc]? = some p → readPair (timing s) s.build.tol p = some false →
      exec (.symBit1 .rx) s = .next s ∧ exec (.symBit0 .rx) s = .next (setRxc (s.rxc + 1) (setK (s.k + 1) s))) ∧
    (s.k < 71 → (∀ p, s.rxs[s.rxc]? = some p → readPair (timing s) s.build.tol p = none) →
      exec (.symBit1 .rx) s = .next (setRes ⟨false, .bitMismatch, s.k⟩ s) ∧
      exec (.symBit0 .rx) s = .next (setRes ⟨false, .bitMismatch, s.k⟩ s)) ∧
    (71 ≤ s.k → exec (.symBit1 .rx) s = .next s ∧ exec (.symBit0 .rx) s = .next s)

/-- DESERIALIZE accepts a burst whose header and 71 data positions read: RXF holds the bits in the revision's bit order and 0
at position 71, RXC is 72, RES is (true, NONE, 71), nothing else changes (42_deserialize.md R160, R163 to R167, R169). Where
the cursor stood before does not matter (log 14). -/
def Obligations.DeserializeReassemblesTheBits : Prop :=
  ∀ (s : State) (bits : Nat → Bool), HeaderFirst s → (∀ k, k < 71 → PositionReads s k (bits k)) →
    ∃ m, exec .deserialize s =
        .next (setRes ⟨true, .none, 71⟩ (setRxc 72 (setK 71 (setRxf m s)))) ∧
      (∀ k, k < 71 → bitAt (layout s).order m k = bits k) ∧ bitAt (layout s).order m 71 = false ∧ Memory.wf m = true

/-- DESERIALIZE rejects a burst that does not begin with a header: RES is (false, HEADER_MISMATCH, 0), RXC is 0, CS and
everything else but RXF keep their values (42_deserialize.md R163, R169, 60_exceptions.md R241). That RXF is then all zero is
the model's choice (log 15), since R169's contents after a rejection are not to be used. -/
def Obligations.DeserializeRejectsABadHeader : Prop :=
  ∀ s : State, ¬HeaderFirst s →
    exec .deserialize s = .next (setRes ⟨false, .headerMismatch, 0⟩ (setRxc 0 (setRxf [] s)))

/-- DESERIALIZE rejects at the first data position that is missing or matches neither bit: RES is (false, BIT_MISMATCH, j), RXC
is j + 1, the failing pair (42_deserialize.md R166, R169, 60_exceptions.md R242, R246). That RXF then holds exactly the bits
before it is the model's choice (log 15), since R169's contents after a rejection are not to be used. -/
def Obligations.DeserializeRejectsAtTheFirstBadBit : Prop :=
  ∀ (s : State) (bits : Nat → Bool) (j : Nat), j < 71 → HeaderFirst s →
    (∀ k, k < j → PositionReads s k (bits k)) → PositionFails s j →
    ∃ m, exec .deserialize s =
        .next (setRes ⟨false, .bitMismatch, j⟩ (setRxc (j + 1) (setK j (setRxf m s)))) ∧
      ∀ k, k < 72 → bitAt (layout s).order m k = (decide (k < j) && bits k)

/-- Pairs after the 71st data pair are not looked at (42_deserialize.md R168). -/
def Obligations.PairsAfterTheLastBitAreIgnored : Prop :=
  ∀ (s t : State) (extra : List (Nat × Nat)), exec .deserialize s = .next t → t.res.ok = true →
    exec .deserialize (setRxs (s.rxs ++ extra) s) = .next (setRxs (s.rxs ++ extra) t)

/-- DESERIALIZE makes at most 143 calls of RX.expect, consumes at most 72 pairs, and is a function of REV (with the build's
records and Match) and RXS alone: RXF, RXC, RES and the number of calls do not depend on anything else, the cursor among it
(42_deserialize.md R170; log 14). What RXF holds after a rejection is the model's choice (log 15). -/
def Obligations.DeserializeIsBounded : Prop :=
  ∀ s : State, deserializeCalls s ≤ 143 ∧
    ∃ t, exec .deserialize s = .next t ∧ t.rxc ≤ 72 ∧
      ∀ s' : State, s'.build = s.build → s'.rxs = s.rxs →
        deserializeCalls s' = deserializeCalls s ∧
        ∃ t', exec .deserialize s' = .next t' ∧ t'.rxf = t.rxf ∧ t'.rxc = t.rxc ∧ t'.res = t.res

/-- DESERIALIZE of the burst made from a SERIALIZE of the same build gives the frame back, but for the never-sent bit, which
reads 0 (42_deserialize.md R165, R167). -/
def Obligations.DeserializeInvertsSerialize : Prop :=
  ∀ (s : State) (idle : Nat), TimingUsable (timing s) s.build.tol →
    ∃ t u, exec .serialize s = .next t ∧ exec .deserialize (loopBack idle t) = .next u ∧
      u.res = ⟨true, .none, 71⟩ ∧ u.rxc = 72 ∧
      (∀ k, k < 71 → bitAt (layout s).order u.rxf k = bitAt (layout s).order s.txf k) ∧
      bitAt (layout s).order u.rxf 71 = false

/-! ## UNPACK -/

/-- UNPACK in revision A with the reference layout: CS and m, t, f, p get the decoded state, and nothing else changes
(43_unpack.md section 2, R181 to R184, of which the codes and R184 are the spec's decisions D6 and D23). -/
def Obligations.UnpackADecodesTheFrame : Prop :=
  ∀ s : State, s.build.rev = .A → s.build.layout.a = layoutA →
    ∀ c : Climate, c = ⟨modeFromA (readByte s.rxf 6), tempFrom (readByte s.rxf 7 &&& 0x0F),
        fanFromA (readByte s.rxf 8) s.cs.fan, presetFrom (readByte s.rxf 5)⟩ →
      exec .unpack s = .next (setCs c (setDec c s))

/-- UNPACK in revision B with the reference layout (43_unpack.md section 3, R185 to R188, of which R185 to R187 are the spec's
decision D7). -/
def Obligations.UnpackBDecodesTheFrame : Prop :=
  ∀ s : State, s.build.rev = .B → s.build.layout.b = layoutB →
    ∀ c : Climate, c = ⟨modeFromB (readByte s.rxf 6), tempFrom (readByte s.rxf 7 >>> 4),
        fanFromB (readByte s.rxf 8) s.cs.fan, presetFrom (readByte s.rxf 8)⟩ →
      exec .unpack s = .next (setCs c (setDec c s))

/-- UNPACK in revision C with the reference layout (43_unpack.md R189 to R192); AUX is AuxC of the nine bytes, whatever
function AuxC is (R212; log 8). That an UNPACK on its own writes AUX is the model's choice (log 21). -/
def Obligations.UnpackCDecodesTheFrame : Prop :=
  ∀ s : State, s.build.rev = .C → s.build.layout.c = layoutC →
    ∀ c : Climate, c = ⟨modeFromC (readByte s.rxf 0), tempFrom (readByte s.rxf 1 &&& 0x0F),
        fanFromC (readByte s.rxf 1) s.cs.fan, presetFrom (readByte s.rxf 2)⟩ →
      exec .unpack s = .next (setCs c (setAux (Config.auxC (frameBytes s.rxf)) (setDec c s)))

/-- The mode is the one whose code equals the masked mode byte, and OFF where no code does, under any layout whose codes are
distinct (43_unpack.md R193). -/
def Obligations.ModeIsLookedUpByItsCode : Prop :=
  ∀ (s : State) (v : Byte), v = readByte s.rxf (layout s).modeByte &&& (layout s).modeMask →
    ∃ t, exec .unpack s = .next t ∧
      ((∀ m, m ≠ .off → modeCode s.build.rev (layout s) m ≠ some v) → t.cs.mode = .off) ∧
      (∀ m, m ≠ .off → (layout s).WfModes → modeCode s.build.rev (layout s) m = some v → t.cs.mode = m)

/-- UNPACK is total and gives a state inside the domains, never HEAT in revision A, for every frame, every prior fan and every
layout (43_unpack.md R198); the preset is SLEEP exactly where the masked night byte is not 0 (R196); AUX is AuxC of the nine
bytes in revision C and as before in A and B (R180, R212). That an UNPACK on its own writes AUX is the model's choice (logs 8
and 21). -/
def Obligations.UnpackYieldsAValidState : Prop :=
  ∀ s : State, ∃ c, exec .unpack s = .next
      (setCs c (setAux (if s.build.rev = .C then Config.auxC (frameBytes s.rxf) else s.aux) (setDec c s))) ∧
    18 ≤ c.temp ∧ c.temp ≤ 30 ∧ (s.build.rev = .A → c.mode ≠ .heat) ∧
    (c.preset = .sleep ↔ readByte s.rxf (layout s).nightByte &&& (layout s).nightMask ≠ 0)

/-- The temperature decode table (43_unpack.md R195), for every revision and layout. -/
def Obligations.TemperatureDecodeTable : Prop :=
  ∀ s : State, ∃ t, exec .unpack s = .next t ∧
    tempTable[((readByte s.rxf (layout s).tempByte >>> (layout s).tempShift) &&& 0x0F).toNat]? = some t.cs.temp

/-- Frames that agree on the four masked regions of the revision unpack to the same state, given the same prior fan
(43_unpack.md R197). -/
def Obligations.BitsOutsideTheRegionsAreNotRead : Prop :=
  ∀ (s : State) (m : Memory),
    (∀ p ∈ (layout s).regions, readByte m p.1.val &&& p.2 = readByte s.rxf p.1.val &&& p.2) →
    ∃ t u, exec .unpack s = .next t ∧ exec .unpack (setRxf m s) = .next u ∧ t.cs = u.cs

/-- A fan field that equals no code keeps the prior CS.fan, in every revision (43_unpack.md R199); one that equals the code of
`f` gives `f` where the codes are distinct. -/
def Obligations.UnmatchedFanKeepsThePrior : Prop :=
  ∀ s : State, ∃ t, exec .unpack s = .next t ∧
    ((∀ f, fanCode (layout s) f ≠ readByte s.rxf (layout s).fanByte &&& (layout s).fanMask) → t.cs.fan = s.cs.fan) ∧
    (∀ f, (layout s).WfFans → fanCode (layout s) f = readByte s.rxf (layout s).fanByte &&& (layout s).fanMask →
      t.cs.fan = f)

/-! ## TRANSMIT and RECEIVE -/

/-- TRANSMIT is PACK then SERIALIZE; it does not change CS, RXF, RXC, RES or PUB; two in a row append two identical events
(44_commands.md R220). -/
def Obligations.TransmitIsPackThenSerialize : Prop :=
  ∀ s : State, ∃ p t u e, exec .pack s = .next p ∧ exec .serialize p = .next t ∧ exec .transmit s = .next t ∧
    t.cs = s.cs ∧ t.rxf = s.rxf ∧ t.rxc = s.rxc ∧ t.res = s.res ∧ t.pub = s.pub ∧
    exec .transmit t = .next u ∧ t.emit = s.emit ++ [e] ∧ u.emit = s.emit ++ [e, e]

/-- RECEIVE of a burst DESERIALIZE accepts: UNPACK runs on the frame, and the new CS is published once; the result is a success
(44_commands.md R222, R224). -/
def Obligations.ReceiveUnpacksAndPublishesOnSuccess : Prop :=
  ∀ (s : State) (bits : Nat → Bool), HeaderFirst s → (∀ k, k < 71 → PositionReads s k (bits k)) →
    ∃ t u, exec .deserialize s = .next t ∧ exec .unpack t = .next u ∧
      exec .receive s = .next (setPub (s.pub ++ [u.cs]) u) ∧ u.res = ⟨true, .none, 71⟩

/-- RECEIVE of a burst DESERIALIZE rejects, at the header or at a bit: UNPACK does not run, CS keeps every field, nothing is
published, AUX is not written, and the caller gets RES (44_commands.md R223, 60_exceptions.md R247). -/
def Obligations.ReceiveStopsAtARejection : Prop :=
  ∀ s : State, (¬HeaderFirst s ∨ HeaderFirst s ∧ ∃ j, j < 71 ∧ PositionFails s j ∧
      ∀ k, k < j → ∃ b, PositionReads s k b) →
    ∃ t, exec .deserialize s = .next t ∧ exec .receive s = .next t ∧ t.res.ok = false ∧
      t = { s with rxf := t.rxf, k := t.k, rxc := t.rxc, res := t.res }

/-- A rejected burst is as if it had never come: the next burst and the next transmission give what they would have given
(60_exceptions.md R248). Of the RXF compared, what it holds where the next burst is rejected too is the model's choice (log 15). -/
def Obligations.ARejectedBurstIsForgotten : Prop :=
  ∀ (s t : State) (l : List (Nat × Nat)), exec .receive s = .next t → t.res.ok = false →
    (∃ u v, exec .receive (handBurst l t) = .next u ∧ exec .receive (handBurst l s) = .next v ∧
      u.cs = v.cs ∧ u.pub = v.pub ∧ u.res = v.res ∧ u.rxf = v.rxf ∧ u.aux = v.aux) ∧
    (∃ u v, exec .transmit t = .next u ∧ exec .transmit s = .next v ∧ u.emit = v.emit ∧ u.cs = v.cs ∧ u.pub = v.pub)

/-- The round trip: for a well-formed layout, a usable timing and a supported mode, RECEIVE of the pairs of TRANSMIT succeeds and
yields the state that was sent, but for DRY's temperature in revision A, the fan of mode AUTO in revision C, and the clamp;
whatever CS holds in between (43_unpack.md R200). -/
def Obligations.ReceiveOfTransmitGivesTheStateBack : Prop :=
  ∀ (s : State) (idle : Nat) (prior : Climate), BuildUsable s.build → Supported s.build.rev s.cs.mode →
    ∃ t u, exec .transmit s = .next t ∧ exec .receive (setCs prior (loopBack idle t)) = .next u ∧
      u.cs = returned s.build.rev s.cs ∧ u.pub = s.pub ++ [returned s.build.rev s.cs] ∧ u.res = ⟨true, .none, 71⟩

/-! ## The reason rows -/

/-- Each reason row is DESERIALIZE where the burst ends it with that reason, and changes nothing where it ends with another
(60_exceptions.md R245, R246; what a reason row does as a command is the model's choice, log 28). Whatever instruction runs, RES
is written by DESERIALIZE, by RECEIVE and by the rows that are their steps, and a rejection it records has its cause: the
first pair of the burst is no header (R241), or the pair at the cursor is missing or matches neither bit (R242). That the symbol
rows are commands is the model's choice (log 2). -/
def Obligations.ReasonRowsRecordTheirResult : Prop :=
  (∀ s : State, ∃ t, exec .deserialize s = .next t ∧
    (HeaderFirst s → (∀ k, k < 71 → ∃ b, PositionReads s k b) → t.res = ⟨true, .none, 71⟩ ∧
      exec .reasonNone s = .next t ∧ exec .reasonHeaderMismatch s = .next s ∧ exec .reasonBitMismatch s = .next s) ∧
    (¬HeaderFirst s → t.res = ⟨false, .headerMismatch, 0⟩ ∧
      exec .reasonNone s = .next s ∧ exec .reasonHeaderMismatch s = .next t ∧ exec .reasonBitMismatch s = .next s) ∧
    (∀ j, j < 71 → HeaderFirst s → PositionFails s j → (∀ k, k < j → ∃ b, PositionReads s k b) →
      t.res = ⟨false, .bitMismatch, j⟩ ∧
      exec .reasonNone s = .next s ∧ exec .reasonHeaderMismatch s = .next s ∧ exec .reasonBitMismatch s = .next t)) ∧
  ∀ (i : Instr) (s t : State), exec i s = .next t →
    (i ∉ resWriters → t.res = s.res) ∧
    (t.res ≠ s.res → t.res.ok = false →
      (t.res = ⟨false, .headerMismatch, 0⟩ ∧ ¬HeaderFirst s) ∨
      (t.res = ⟨false, .bitMismatch, t.k⟩ ∧ t.k < 71 ∧
        ∀ p, s.rxs[t.rxc]? = some p → readPair (timing s) s.build.tol p = none))

/-! ## The whole machine -/

/-- The invariant holds at reset. It holds there of the values that logs 4 to 10 and 16 choose. -/
def Obligations.InvariantHoldsAtReset : Prop := State.reset.Inv

/-- Every step keeps the invariant: buffers in canonical form, round number 1 or 2, position at most 71, a legal RES, the cursor
inside the burst, every event of EMIT alternating and of a legal length on the carrier, every published state valid. -/
def Obligations.EveryStepKeepsTheInvariant : Prop :=
  ∀ s t : State, s.Inv → step s = .next t → t.Inv

/-- No step changes REV, LAYOUT, TIMING or Match (10_state.md R27, R35). -/
def Obligations.NoStepChangesTheBuild : Prop := ∀ s t : State, step s = .next t → t.build = s.build

/-- Of all the rows only UNPACK and RECEIVE write CS (10_state.md R20). -/
def Obligations.OnlyUnpackAndReceiveWriteCs : Prop :=
  ∀ (i : Instr) (s t : State), exec i s = .next t → i ≠ .unpack → i ≠ .receive → t.cs = s.cs

/-- EMIT and PUB are append only; only SERIALIZE and TRANSMIT emit, and only RECEIVE publishes (10_state.md R30, R32,
44_commands.md R224). -/
def Obligations.OnlyTransmissionsEmitAndOnlyReceivePublishes : Prop :=
  ∀ (i : Instr) (s t : State), exec i s = .next t →
    s.emit <+: t.emit ∧ s.pub <+: t.pub ∧ (i ≠ .serialize → i ≠ .transmit → t.emit = s.emit) ∧
    (i ≠ .receive → t.pub = s.pub)

/-- The two paths share no mutable buffer and no port: PACK, SERIALIZE and TRANSMIT touch the transmit side alone, DESERIALIZE,
UNPACK and RECEIVE the receive side and CS alone; the sequencer position k serves both (10_state.md R25, R26, 44_commands.md
R220, R222). -/
def Obligations.TransmitAndReceivePathsAreSeparate : Prop :=
  ∀ (i : Instr) (s t : State), exec i s = .next t →
    (i = .pack ∨ i = .serialize ∨ i = .transmit → SameButTransmitSide s t) ∧
    (i = .deserialize ∨ i = .unpack ∨ i = .receive → SameButReceiveSide s t)

/-- Every instruction but the two unassigned codes answers a next state in every state: no operation has an error path that
stops the block (60_exceptions.md R240, R249). -/
def Obligations.EveryAssignedInstructionCompletes : Prop :=
  ∀ (i : Instr) (s : State), i ≠ .unassigned011 → i ≠ .unassigned111 → ∃ t, exec i s = .next t
end

