-- ==== Sys2Proof/Laws/Memory.lean ====
section
/-! SUPPORT. The frame buffers: a read after a write, and the canonical form that every write keeps. -/

namespace Sys2Proof.Machine

@[simp] theorem readByte_nil (i : Nat) : readByte [] i = 0 := rfl

theorem readByte_clearByte (m : Memory) (i j : Nat) :
    readByte (clearByte m i) j = if j = i then 0 else readByte m j := by
  induction m with
  | nil => simp [clearByte]
  | cons p rest ih =>
    obtain ⟨a, b⟩ := p
    simp only [clearByte] at ih
    by_cases hai : a = i
    · subst hai
      simp only [clearByte, ne_eq, not_true_eq_false, decide_false, Bool.false_eq_true, not_false_eq_true,
        List.filter_cons_of_neg, ih, readByte]
      by_cases hj : j = a <;> simp [hj, eq_comm]
    · simp only [clearByte, ne_eq, hai, not_false_eq_true, decide_true, List.filter_cons_of_pos, readByte]
      by_cases haj : a = j
      · subst haj; simp [hai]
      · rw [if_neg haj, if_neg haj]; exact ih

theorem readByte_insertByte (m : Memory) (i j : Nat) (v : Byte) (h : ∀ p ∈ m, p.1 ≠ i) :
    readByte (insertByte m i v) j = if j = i then v else readByte m j := by
  induction m with
  | nil => simp [insertByte, readByte, eq_comm, unlistedByte]
  | cons p rest ih =>
    obtain ⟨a, b⟩ := p
    have hai : a ≠ i := h (a, b) (by simp)
    have ih := ih fun q hq => h q (by simp [hq])
    unfold insertByte
    split
    · by_cases hj : j = i
      · simp [readByte, hj]
      · simp [readByte, hj, Ne.symm hj]
    · by_cases haj : a = j
      · subst haj; simp [readByte, hai]
      · simp [readByte, haj, ih]

/-- A read after a write, at the written address or at another one, in any buffer. -/
theorem readByte_writeByte (m : Memory) (i j : Nat) (v : Byte) :
    readByte (writeByte m i v) j = if j = i then v else readByte m j := by
  unfold writeByte
  split
  · simp_all [readByte_clearByte, unlistedByte]
  · rw [readByte_insertByte _ _ _ _ (by simp [clearByte]), readByte_clearByte]
    split <;> simp_all

@[simp] theorem readByte_writeByte_same (m : Memory) (i : Nat) (v : Byte) : readByte (writeByte m i v) i = v := by
  simp [readByte_writeByte]

theorem readByte_writeByte_other (m : Memory) {i j : Nat} (v : Byte) (h : j ≠ i) :
    readByte (writeByte m i v) j = readByte m j := by
  simp [readByte_writeByte, h]

/-! ## The canonical form -/

theorem Memory.wf_iff (m : Memory) :
    Memory.wf m = true ↔ m.Pairwise (fun p q => p.1 < q.1) ∧ ∀ p ∈ m, p.1 < 9 ∧ p.2 ≠ 0 := by
  unfold Memory.wf
  rw [Bool.and_eq_true, decide_eq_true_iff, List.all_eq_true]
  refine and_congr_right fun _ => forall₂_congr fun p _ => ?_
  rw [Bool.and_eq_true, decide_eq_true_iff, decide_eq_true_iff]
  rfl

@[simp] theorem Memory.wf_nil : Memory.wf [] = true := by decide

theorem Memory.wf_clearByte {m : Memory} (h : Memory.wf m = true) (i : Nat) : Memory.wf (clearByte m i) = true := by
  rw [Memory.wf_iff] at *
  exact ⟨h.1.filter _, fun p hp => h.2 p (List.mem_of_mem_filter hp)⟩

theorem mem_insertByte {m : Memory} {i : Nat} {v : Byte} {p : Host.Cell} :
    p ∈ insertByte m i v ↔ p = (i, v) ∨ p ∈ m := by
  induction m with
  | nil => simp [insertByte]
  | cons q rest ih =>
    unfold insertByte
    split
    · simp
    · simp only [List.mem_cons, ih]; tauto

theorem Memory.wf_insertByte {m : Memory} (h : Memory.wf m = true) {i : Nat} (hi : i < 9) {v : Byte} (hv : v ≠ 0)
    (hm : ∀ p ∈ m, p.1 ≠ i) : Memory.wf (insertByte m i v) = true := by
  rw [Memory.wf_iff] at *
  refine ⟨?_, fun p hp => ?_⟩
  · obtain ⟨h, -⟩ := h
    induction m with
    | nil => simp [insertByte]
    | cons q rest ih =>
      obtain ⟨a, b⟩ := q
      have hai : a ≠ i := hm (a, b) (by simp)
      rw [List.pairwise_cons] at h
      unfold insertByte
      split
      · rename_i hlt
        refine List.pairwise_cons.2 ⟨?_, List.pairwise_cons.2 h⟩
        intro p hp
        rcases List.mem_cons.1 hp with rfl | hp
        · exact hlt
        · exact lt_trans hlt (h.1 p hp)
      · refine List.pairwise_cons.2 ⟨?_, ih (fun p hp => hm p (by simp [hp])) h.2⟩
        intro p hp
        rcases mem_insertByte.1 hp with rfl | hp
        · simp only; omega
        · exact h.1 p hp
  · rcases mem_insertByte.1 hp with rfl | hp
    · exact ⟨hi, hv⟩
    · exact h.2 p hp

/-- A write keeps the canonical form. -/
theorem Memory.wf_writeByte {m : Memory} (h : Memory.wf m = true) {i : Nat} (hi : i < 9) (v : Byte) :
    Memory.wf (writeByte m i v) = true := by
  unfold writeByte
  split
  · exact Memory.wf_clearByte h i
  · exact Memory.wf_insertByte (Memory.wf_clearByte h i) hi (by assumption) (by simp [clearByte])

theorem Memory.wf_writeBytes {m : Memory} (h : Memory.wf m = true) {i : Nat} {l : List Byte} (hi : i + l.length ≤ 9) :
    Memory.wf (writeBytes m i l) = true := by
  induction l generalizing m i with
  | nil => exact h
  | cons v rest ih =>
    simp only [List.length_cons] at hi
    exact ih (Memory.wf_writeByte h (by omega) v) (by omega)

/-- What `writeBytes` leaves: the listed bytes from `i` on, and the old byte elsewhere. -/
theorem readByte_writeBytes (m : Memory) (i j : Nat) (l : List Byte) :
    readByte (writeBytes m i l) j = if h : i ≤ j ∧ j < i + l.length then l[j - i]'(by omega) else readByte m j := by
  induction l generalizing m i with
  | nil => rw [dif_neg (by simp only [List.length_nil]; omega)]; rfl
  | cons v rest ih =>
    rw [writeBytes, ih, readByte_writeByte]
    by_cases hji : j = i
    · subst hji
      rw [dif_neg (by omega), if_pos rfl, dif_pos ⟨le_refl _, by simp only [List.length_cons]; omega⟩]
      simp only [Nat.sub_self, List.getElem_cons_zero]
    · by_cases h : i + 1 ≤ j ∧ j < i + 1 + rest.length
      · have h' : i ≤ j ∧ j < i + (v :: rest).length := by simp only [List.length_cons]; omega
        obtain ⟨n, hn⟩ : ∃ n, j - i = n + 1 := ⟨j - i - 1, by omega⟩
        have hn' : j - (i + 1) = n := by omega
        rw [dif_pos h, dif_pos h']
        simp only [hn, hn', List.getElem_cons_succ]
      · rw [dif_neg h, dif_neg (by simp only [List.length_cons]; omega), if_neg hji]

/-- Two buffers in canonical form that read the same everywhere are the same list. -/
theorem memory_ext {m n : Memory} (hm : Memory.wf m = true) (hn : Memory.wf n = true)
    (h : ∀ i, readByte m i = readByte n i) : m = n := by
  have key : ∀ (m : Memory), Memory.wf m = true → ∀ p : Host.Cell, p ∈ m ↔ readByte m p.1 = p.2 ∧ p.2 ≠ 0 := by
    intro m hm p
    rw [Memory.wf_iff] at hm
    induction m with
    | nil => simp only [List.not_mem_nil, readByte_nil, false_iff, not_and, not_not]; exact fun h => h.symm
    | cons q rest ih =>
      obtain ⟨a, b⟩ := q
      obtain ⟨x, y⟩ := p
      rw [List.pairwise_cons] at hm
      have ih := ih ⟨hm.1.2, fun r hr => hm.2 r (by simp [hr])⟩
      by_cases hax : a = x
      · subst hax
        have : ∀ y, (a, y) ∉ rest := fun y hy => lt_irrefl _ (hm.1.1 (a, y) hy)
        have hb := (hm.2 (a, b) (by simp)).2
        simp only [List.mem_cons, Prod.mk.injEq, true_and, this, or_false, readByte, if_true]
        constructor
        · rintro rfl; exact ⟨rfl, hb⟩
        · rintro ⟨rfl, -⟩; rfl
      · simp only [List.mem_cons, Prod.mk.injEq, Ne.symm hax, false_and, false_or, ih, readByte, if_neg hax]
  have hp : m.Perm n := by
    have nd : ∀ {m : Memory}, Memory.wf m = true → m.Nodup := by
      intro m hm
      rw [Memory.wf_iff] at hm
      refine hm.1.imp ?_
      intro a b hab heq
      subst heq; exact lt_irrefl _ hab
    refine (List.perm_ext_iff_of_nodup (nd hm) (nd hn)).2 fun p => ?_
    rw [key m hm, key n hn, h]
  rw [Memory.wf_iff] at hm hn
  exact hp.eq_of_pairwise (fun a b _ _ hab hba => absurd (lt_trans hab hba) (lt_irrefl _)) hm.1 hn.1

end Sys2Proof.Machine
end

