-- ==== Sys2Proof/Laws/State.lean ====
section
/-! SUPPORT. One lemma for each field of State under each update, and the constant records under each update. -/

namespace Sys2Proof.Machine

variable (s : State)

/-! ### setTxf -/

@[simp] theorem setTxf_build (m : Memory) : (setTxf m s).build = s.build := rfl
@[simp] theorem setTxf_cs (m : Memory) : (setTxf m s).cs = s.cs := rfl
@[simp] theorem setTxf_txf (m : Memory) : (setTxf m s).txf = m := rfl
@[simp] theorem setTxf_rxf (m : Memory) : (setTxf m s).rxf = s.rxf := rfl
@[simp] theorem setTxf_rd (m : Memory) : (setTxf m s).rd = s.rd := rfl
@[simp] theorem setTxf_k (m : Memory) : (setTxf m s).k = s.k := rfl
@[simp] theorem setTxf_res (m : Memory) : (setTxf m s).res = s.res := rfl
@[simp] theorem setTxf_aux (m : Memory) : (setTxf m s).aux = s.aux := rfl
@[simp] theorem setTxf_txcar (m : Memory) : (setTxf m s).txcar = s.txcar := rfl
@[simp] theorem setTxf_txseq (m : Memory) : (setTxf m s).txseq = s.txseq := rfl
@[simp] theorem setTxf_emit (m : Memory) : (setTxf m s).emit = s.emit := rfl
@[simp] theorem setTxf_rxs (m : Memory) : (setTxf m s).rxs = s.rxs := rfl
@[simp] theorem setTxf_rxc (m : Memory) : (setTxf m s).rxc = s.rxc := rfl
@[simp] theorem setTxf_pub (m : Memory) : (setTxf m s).pub = s.pub := rfl
@[simp] theorem setTxf_dec (m : Memory) : (setTxf m s).dec = s.dec := rfl
@[simp] theorem setTxf_inbox (m : Memory) : (setTxf m s).inbox = s.inbox := rfl
@[simp] theorem setTxf_layout (m : Memory) : layout (setTxf m s) = layout s := rfl
@[simp] theorem setTxf_timing (m : Memory) : timing (setTxf m s) = timing s := rfl
@[simp] theorem setTxf_self : setTxf s.txf s = s := rfl
@[simp] theorem setTxf_setTxf (m m' : Memory) : setTxf m (setTxf m' s) = setTxf m s := rfl

/-! ### setRxf -/

@[simp] theorem setRxf_build (m : Memory) : (setRxf m s).build = s.build := rfl
@[simp] theorem setRxf_cs (m : Memory) : (setRxf m s).cs = s.cs := rfl
@[simp] theorem setRxf_txf (m : Memory) : (setRxf m s).txf = s.txf := rfl
@[simp] theorem setRxf_rxf (m : Memory) : (setRxf m s).rxf = m := rfl
@[simp] theorem setRxf_rd (m : Memory) : (setRxf m s).rd = s.rd := rfl
@[simp] theorem setRxf_k (m : Memory) : (setRxf m s).k = s.k := rfl
@[simp] theorem setRxf_res (m : Memory) : (setRxf m s).res = s.res := rfl
@[simp] theorem setRxf_aux (m : Memory) : (setRxf m s).aux = s.aux := rfl
@[simp] theorem setRxf_txcar (m : Memory) : (setRxf m s).txcar = s.txcar := rfl
@[simp] theorem setRxf_txseq (m : Memory) : (setRxf m s).txseq = s.txseq := rfl
@[simp] theorem setRxf_emit (m : Memory) : (setRxf m s).emit = s.emit := rfl
@[simp] theorem setRxf_rxs (m : Memory) : (setRxf m s).rxs = s.rxs := rfl
@[simp] theorem setRxf_rxc (m : Memory) : (setRxf m s).rxc = s.rxc := rfl
@[simp] theorem setRxf_pub (m : Memory) : (setRxf m s).pub = s.pub := rfl
@[simp] theorem setRxf_dec (m : Memory) : (setRxf m s).dec = s.dec := rfl
@[simp] theorem setRxf_inbox (m : Memory) : (setRxf m s).inbox = s.inbox := rfl
@[simp] theorem setRxf_layout (m : Memory) : layout (setRxf m s) = layout s := rfl
@[simp] theorem setRxf_timing (m : Memory) : timing (setRxf m s) = timing s := rfl
@[simp] theorem setRxf_self : setRxf s.rxf s = s := rfl
@[simp] theorem setRxf_setRxf (m m' : Memory) : setRxf m (setRxf m' s) = setRxf m s := rfl

/-! ### setRd -/

@[simp] theorem setRd_build (n : Nat) : (setRd n s).build = s.build := rfl
@[simp] theorem setRd_cs (n : Nat) : (setRd n s).cs = s.cs := rfl
@[simp] theorem setRd_txf (n : Nat) : (setRd n s).txf = s.txf := rfl
@[simp] theorem setRd_rxf (n : Nat) : (setRd n s).rxf = s.rxf := rfl
@[simp] theorem setRd_rd (n : Nat) : (setRd n s).rd = n := rfl
@[simp] theorem setRd_k (n : Nat) : (setRd n s).k = s.k := rfl
@[simp] theorem setRd_res (n : Nat) : (setRd n s).res = s.res := rfl
@[simp] theorem setRd_aux (n : Nat) : (setRd n s).aux = s.aux := rfl
@[simp] theorem setRd_txcar (n : Nat) : (setRd n s).txcar = s.txcar := rfl
@[simp] theorem setRd_txseq (n : Nat) : (setRd n s).txseq = s.txseq := rfl
@[simp] theorem setRd_emit (n : Nat) : (setRd n s).emit = s.emit := rfl
@[simp] theorem setRd_rxs (n : Nat) : (setRd n s).rxs = s.rxs := rfl
@[simp] theorem setRd_rxc (n : Nat) : (setRd n s).rxc = s.rxc := rfl
@[simp] theorem setRd_pub (n : Nat) : (setRd n s).pub = s.pub := rfl
@[simp] theorem setRd_dec (n : Nat) : (setRd n s).dec = s.dec := rfl
@[simp] theorem setRd_inbox (n : Nat) : (setRd n s).inbox = s.inbox := rfl
@[simp] theorem setRd_layout (n : Nat) : layout (setRd n s) = layout s := rfl
@[simp] theorem setRd_timing (n : Nat) : timing (setRd n s) = timing s := rfl
@[simp] theorem setRd_self : setRd s.rd s = s := rfl
@[simp] theorem setRd_setRd (n n' : Nat) : setRd n (setRd n' s) = setRd n s := rfl

/-! ### setK -/

@[simp] theorem setK_build (n : Nat) : (setK n s).build = s.build := rfl
@[simp] theorem setK_cs (n : Nat) : (setK n s).cs = s.cs := rfl
@[simp] theorem setK_txf (n : Nat) : (setK n s).txf = s.txf := rfl
@[simp] theorem setK_rxf (n : Nat) : (setK n s).rxf = s.rxf := rfl
@[simp] theorem setK_rd (n : Nat) : (setK n s).rd = s.rd := rfl
@[simp] theorem setK_k (n : Nat) : (setK n s).k = n := rfl
@[simp] theorem setK_res (n : Nat) : (setK n s).res = s.res := rfl
@[simp] theorem setK_aux (n : Nat) : (setK n s).aux = s.aux := rfl
@[simp] theorem setK_txcar (n : Nat) : (setK n s).txcar = s.txcar := rfl
@[simp] theorem setK_txseq (n : Nat) : (setK n s).txseq = s.txseq := rfl
@[simp] theorem setK_emit (n : Nat) : (setK n s).emit = s.emit := rfl
@[simp] theorem setK_rxs (n : Nat) : (setK n s).rxs = s.rxs := rfl
@[simp] theorem setK_rxc (n : Nat) : (setK n s).rxc = s.rxc := rfl
@[simp] theorem setK_pub (n : Nat) : (setK n s).pub = s.pub := rfl
@[simp] theorem setK_dec (n : Nat) : (setK n s).dec = s.dec := rfl
@[simp] theorem setK_inbox (n : Nat) : (setK n s).inbox = s.inbox := rfl
@[simp] theorem setK_layout (n : Nat) : layout (setK n s) = layout s := rfl
@[simp] theorem setK_timing (n : Nat) : timing (setK n s) = timing s := rfl
@[simp] theorem setK_self : setK s.k s = s := rfl
@[simp] theorem setK_setK (n n' : Nat) : setK n (setK n' s) = setK n s := rfl

/-! ### setRes -/

@[simp] theorem setRes_build (r : Result) : (setRes r s).build = s.build := rfl
@[simp] theorem setRes_cs (r : Result) : (setRes r s).cs = s.cs := rfl
@[simp] theorem setRes_txf (r : Result) : (setRes r s).txf = s.txf := rfl
@[simp] theorem setRes_rxf (r : Result) : (setRes r s).rxf = s.rxf := rfl
@[simp] theorem setRes_rd (r : Result) : (setRes r s).rd = s.rd := rfl
@[simp] theorem setRes_k (r : Result) : (setRes r s).k = s.k := rfl
@[simp] theorem setRes_res (r : Result) : (setRes r s).res = r := rfl
@[simp] theorem setRes_aux (r : Result) : (setRes r s).aux = s.aux := rfl
@[simp] theorem setRes_txcar (r : Result) : (setRes r s).txcar = s.txcar := rfl
@[simp] theorem setRes_txseq (r : Result) : (setRes r s).txseq = s.txseq := rfl
@[simp] theorem setRes_emit (r : Result) : (setRes r s).emit = s.emit := rfl
@[simp] theorem setRes_rxs (r : Result) : (setRes r s).rxs = s.rxs := rfl
@[simp] theorem setRes_rxc (r : Result) : (setRes r s).rxc = s.rxc := rfl
@[simp] theorem setRes_pub (r : Result) : (setRes r s).pub = s.pub := rfl
@[simp] theorem setRes_dec (r : Result) : (setRes r s).dec = s.dec := rfl
@[simp] theorem setRes_inbox (r : Result) : (setRes r s).inbox = s.inbox := rfl
@[simp] theorem setRes_layout (r : Result) : layout (setRes r s) = layout s := rfl
@[simp] theorem setRes_timing (r : Result) : timing (setRes r s) = timing s := rfl
@[simp] theorem setRes_self : setRes s.res s = s := rfl
@[simp] theorem setRes_setRes (r r' : Result) : setRes r (setRes r' s) = setRes r s := rfl

/-! ### setAux -/

@[simp] theorem setAux_build (a : Option Nat) : (setAux a s).build = s.build := rfl
@[simp] theorem setAux_cs (a : Option Nat) : (setAux a s).cs = s.cs := rfl
@[simp] theorem setAux_txf (a : Option Nat) : (setAux a s).txf = s.txf := rfl
@[simp] theorem setAux_rxf (a : Option Nat) : (setAux a s).rxf = s.rxf := rfl
@[simp] theorem setAux_rd (a : Option Nat) : (setAux a s).rd = s.rd := rfl
@[simp] theorem setAux_k (a : Option Nat) : (setAux a s).k = s.k := rfl
@[simp] theorem setAux_res (a : Option Nat) : (setAux a s).res = s.res := rfl
@[simp] theorem setAux_aux (a : Option Nat) : (setAux a s).aux = a := rfl
@[simp] theorem setAux_txcar (a : Option Nat) : (setAux a s).txcar = s.txcar := rfl
@[simp] theorem setAux_txseq (a : Option Nat) : (setAux a s).txseq = s.txseq := rfl
@[simp] theorem setAux_emit (a : Option Nat) : (setAux a s).emit = s.emit := rfl
@[simp] theorem setAux_rxs (a : Option Nat) : (setAux a s).rxs = s.rxs := rfl
@[simp] theorem setAux_rxc (a : Option Nat) : (setAux a s).rxc = s.rxc := rfl
@[simp] theorem setAux_pub (a : Option Nat) : (setAux a s).pub = s.pub := rfl
@[simp] theorem setAux_dec (a : Option Nat) : (setAux a s).dec = s.dec := rfl
@[simp] theorem setAux_inbox (a : Option Nat) : (setAux a s).inbox = s.inbox := rfl
@[simp] theorem setAux_layout (a : Option Nat) : layout (setAux a s) = layout s := rfl
@[simp] theorem setAux_timing (a : Option Nat) : timing (setAux a s) = timing s := rfl
@[simp] theorem setAux_self : setAux s.aux s = s := rfl
@[simp] theorem setAux_setAux (a a' : Option Nat) : setAux a (setAux a' s) = setAux a s := rfl

/-! ### setTxcar -/

@[simp] theorem setTxcar_build (f : Nat) : (setTxcar f s).build = s.build := rfl
@[simp] theorem setTxcar_cs (f : Nat) : (setTxcar f s).cs = s.cs := rfl
@[simp] theorem setTxcar_txf (f : Nat) : (setTxcar f s).txf = s.txf := rfl
@[simp] theorem setTxcar_rxf (f : Nat) : (setTxcar f s).rxf = s.rxf := rfl
@[simp] theorem setTxcar_rd (f : Nat) : (setTxcar f s).rd = s.rd := rfl
@[simp] theorem setTxcar_k (f : Nat) : (setTxcar f s).k = s.k := rfl
@[simp] theorem setTxcar_res (f : Nat) : (setTxcar f s).res = s.res := rfl
@[simp] theorem setTxcar_aux (f : Nat) : (setTxcar f s).aux = s.aux := rfl
@[simp] theorem setTxcar_txcar (f : Nat) : (setTxcar f s).txcar = f := rfl
@[simp] theorem setTxcar_txseq (f : Nat) : (setTxcar f s).txseq = s.txseq := rfl
@[simp] theorem setTxcar_emit (f : Nat) : (setTxcar f s).emit = s.emit := rfl
@[simp] theorem setTxcar_rxs (f : Nat) : (setTxcar f s).rxs = s.rxs := rfl
@[simp] theorem setTxcar_rxc (f : Nat) : (setTxcar f s).rxc = s.rxc := rfl
@[simp] theorem setTxcar_pub (f : Nat) : (setTxcar f s).pub = s.pub := rfl
@[simp] theorem setTxcar_dec (f : Nat) : (setTxcar f s).dec = s.dec := rfl
@[simp] theorem setTxcar_inbox (f : Nat) : (setTxcar f s).inbox = s.inbox := rfl
@[simp] theorem setTxcar_layout (f : Nat) : layout (setTxcar f s) = layout s := rfl
@[simp] theorem setTxcar_timing (f : Nat) : timing (setTxcar f s) = timing s := rfl
@[simp] theorem setTxcar_self : setTxcar s.txcar s = s := rfl
@[simp] theorem setTxcar_setTxcar (f f' : Nat) : setTxcar f (setTxcar f' s) = setTxcar f s := rfl

/-! ### setTxseq -/

@[simp] theorem setTxseq_build (l : List Item) : (setTxseq l s).build = s.build := rfl
@[simp] theorem setTxseq_cs (l : List Item) : (setTxseq l s).cs = s.cs := rfl
@[simp] theorem setTxseq_txf (l : List Item) : (setTxseq l s).txf = s.txf := rfl
@[simp] theorem setTxseq_rxf (l : List Item) : (setTxseq l s).rxf = s.rxf := rfl
@[simp] theorem setTxseq_rd (l : List Item) : (setTxseq l s).rd = s.rd := rfl
@[simp] theorem setTxseq_k (l : List Item) : (setTxseq l s).k = s.k := rfl
@[simp] theorem setTxseq_res (l : List Item) : (setTxseq l s).res = s.res := rfl
@[simp] theorem setTxseq_aux (l : List Item) : (setTxseq l s).aux = s.aux := rfl
@[simp] theorem setTxseq_txcar (l : List Item) : (setTxseq l s).txcar = s.txcar := rfl
@[simp] theorem setTxseq_txseq (l : List Item) : (setTxseq l s).txseq = l := rfl
@[simp] theorem setTxseq_emit (l : List Item) : (setTxseq l s).emit = s.emit := rfl
@[simp] theorem setTxseq_rxs (l : List Item) : (setTxseq l s).rxs = s.rxs := rfl
@[simp] theorem setTxseq_rxc (l : List Item) : (setTxseq l s).rxc = s.rxc := rfl
@[simp] theorem setTxseq_pub (l : List Item) : (setTxseq l s).pub = s.pub := rfl
@[simp] theorem setTxseq_dec (l : List Item) : (setTxseq l s).dec = s.dec := rfl
@[simp] theorem setTxseq_inbox (l : List Item) : (setTxseq l s).inbox = s.inbox := rfl
@[simp] theorem setTxseq_layout (l : List Item) : layout (setTxseq l s) = layout s := rfl
@[simp] theorem setTxseq_timing (l : List Item) : timing (setTxseq l s) = timing s := rfl
@[simp] theorem setTxseq_self : setTxseq s.txseq s = s := rfl
@[simp] theorem setTxseq_setTxseq (l l' : List Item) : setTxseq l (setTxseq l' s) = setTxseq l s := rfl

/-! ### setEmit -/

@[simp] theorem setEmit_build (l : List Emission) : (setEmit l s).build = s.build := rfl
@[simp] theorem setEmit_cs (l : List Emission) : (setEmit l s).cs = s.cs := rfl
@[simp] theorem setEmit_txf (l : List Emission) : (setEmit l s).txf = s.txf := rfl
@[simp] theorem setEmit_rxf (l : List Emission) : (setEmit l s).rxf = s.rxf := rfl
@[simp] theorem setEmit_rd (l : List Emission) : (setEmit l s).rd = s.rd := rfl
@[simp] theorem setEmit_k (l : List Emission) : (setEmit l s).k = s.k := rfl
@[simp] theorem setEmit_res (l : List Emission) : (setEmit l s).res = s.res := rfl
@[simp] theorem setEmit_aux (l : List Emission) : (setEmit l s).aux = s.aux := rfl
@[simp] theorem setEmit_txcar (l : List Emission) : (setEmit l s).txcar = s.txcar := rfl
@[simp] theorem setEmit_txseq (l : List Emission) : (setEmit l s).txseq = s.txseq := rfl
@[simp] theorem setEmit_emit (l : List Emission) : (setEmit l s).emit = l := rfl
@[simp] theorem setEmit_rxs (l : List Emission) : (setEmit l s).rxs = s.rxs := rfl
@[simp] theorem setEmit_rxc (l : List Emission) : (setEmit l s).rxc = s.rxc := rfl
@[simp] theorem setEmit_pub (l : List Emission) : (setEmit l s).pub = s.pub := rfl
@[simp] theorem setEmit_dec (l : List Emission) : (setEmit l s).dec = s.dec := rfl
@[simp] theorem setEmit_inbox (l : List Emission) : (setEmit l s).inbox = s.inbox := rfl
@[simp] theorem setEmit_layout (l : List Emission) : layout (setEmit l s) = layout s := rfl
@[simp] theorem setEmit_timing (l : List Emission) : timing (setEmit l s) = timing s := rfl
@[simp] theorem setEmit_self : setEmit s.emit s = s := rfl
@[simp] theorem setEmit_setEmit (l l' : List Emission) : setEmit l (setEmit l' s) = setEmit l s := rfl

/-! ### setRxs -/

@[simp] theorem setRxs_build (l : List (Nat × Nat)) : (setRxs l s).build = s.build := rfl
@[simp] theorem setRxs_cs (l : List (Nat × Nat)) : (setRxs l s).cs = s.cs := rfl
@[simp] theorem setRxs_txf (l : List (Nat × Nat)) : (setRxs l s).txf = s.txf := rfl
@[simp] theorem setRxs_rxf (l : List (Nat × Nat)) : (setRxs l s).rxf = s.rxf := rfl
@[simp] theorem setRxs_rd (l : List (Nat × Nat)) : (setRxs l s).rd = s.rd := rfl
@[simp] theorem setRxs_k (l : List (Nat × Nat)) : (setRxs l s).k = s.k := rfl
@[simp] theorem setRxs_res (l : List (Nat × Nat)) : (setRxs l s).res = s.res := rfl
@[simp] theorem setRxs_aux (l : List (Nat × Nat)) : (setRxs l s).aux = s.aux := rfl
@[simp] theorem setRxs_txcar (l : List (Nat × Nat)) : (setRxs l s).txcar = s.txcar := rfl
@[simp] theorem setRxs_txseq (l : List (Nat × Nat)) : (setRxs l s).txseq = s.txseq := rfl
@[simp] theorem setRxs_emit (l : List (Nat × Nat)) : (setRxs l s).emit = s.emit := rfl
@[simp] theorem setRxs_rxs (l : List (Nat × Nat)) : (setRxs l s).rxs = l := rfl
@[simp] theorem setRxs_rxc (l : List (Nat × Nat)) : (setRxs l s).rxc = s.rxc := rfl
@[simp] theorem setRxs_pub (l : List (Nat × Nat)) : (setRxs l s).pub = s.pub := rfl
@[simp] theorem setRxs_dec (l : List (Nat × Nat)) : (setRxs l s).dec = s.dec := rfl
@[simp] theorem setRxs_inbox (l : List (Nat × Nat)) : (setRxs l s).inbox = s.inbox := rfl
@[simp] theorem setRxs_layout (l : List (Nat × Nat)) : layout (setRxs l s) = layout s := rfl
@[simp] theorem setRxs_timing (l : List (Nat × Nat)) : timing (setRxs l s) = timing s := rfl
@[simp] theorem setRxs_self : setRxs s.rxs s = s := rfl
@[simp] theorem setRxs_setRxs (l l' : List (Nat × Nat)) : setRxs l (setRxs l' s) = setRxs l s := rfl

/-! ### setRxc -/

@[simp] theorem setRxc_build (n : Nat) : (setRxc n s).build = s.build := rfl
@[simp] theorem setRxc_cs (n : Nat) : (setRxc n s).cs = s.cs := rfl
@[simp] theorem setRxc_txf (n : Nat) : (setRxc n s).txf = s.txf := rfl
@[simp] theorem setRxc_rxf (n : Nat) : (setRxc n s).rxf = s.rxf := rfl
@[simp] theorem setRxc_rd (n : Nat) : (setRxc n s).rd = s.rd := rfl
@[simp] theorem setRxc_k (n : Nat) : (setRxc n s).k = s.k := rfl
@[simp] theorem setRxc_res (n : Nat) : (setRxc n s).res = s.res := rfl
@[simp] theorem setRxc_aux (n : Nat) : (setRxc n s).aux = s.aux := rfl
@[simp] theorem setRxc_txcar (n : Nat) : (setRxc n s).txcar = s.txcar := rfl
@[simp] theorem setRxc_txseq (n : Nat) : (setRxc n s).txseq = s.txseq := rfl
@[simp] theorem setRxc_emit (n : Nat) : (setRxc n s).emit = s.emit := rfl
@[simp] theorem setRxc_rxs (n : Nat) : (setRxc n s).rxs = s.rxs := rfl
@[simp] theorem setRxc_rxc (n : Nat) : (setRxc n s).rxc = n := rfl
@[simp] theorem setRxc_pub (n : Nat) : (setRxc n s).pub = s.pub := rfl
@[simp] theorem setRxc_dec (n : Nat) : (setRxc n s).dec = s.dec := rfl
@[simp] theorem setRxc_inbox (n : Nat) : (setRxc n s).inbox = s.inbox := rfl
@[simp] theorem setRxc_layout (n : Nat) : layout (setRxc n s) = layout s := rfl
@[simp] theorem setRxc_timing (n : Nat) : timing (setRxc n s) = timing s := rfl
@[simp] theorem setRxc_self : setRxc s.rxc s = s := rfl
@[simp] theorem setRxc_setRxc (n n' : Nat) : setRxc n (setRxc n' s) = setRxc n s := rfl

/-! ### setPub -/

@[simp] theorem setPub_build (l : List Climate) : (setPub l s).build = s.build := rfl
@[simp] theorem setPub_cs (l : List Climate) : (setPub l s).cs = s.cs := rfl
@[simp] theorem setPub_txf (l : List Climate) : (setPub l s).txf = s.txf := rfl
@[simp] theorem setPub_rxf (l : List Climate) : (setPub l s).rxf = s.rxf := rfl
@[simp] theorem setPub_rd (l : List Climate) : (setPub l s).rd = s.rd := rfl
@[simp] theorem setPub_k (l : List Climate) : (setPub l s).k = s.k := rfl
@[simp] theorem setPub_res (l : List Climate) : (setPub l s).res = s.res := rfl
@[simp] theorem setPub_aux (l : List Climate) : (setPub l s).aux = s.aux := rfl
@[simp] theorem setPub_txcar (l : List Climate) : (setPub l s).txcar = s.txcar := rfl
@[simp] theorem setPub_txseq (l : List Climate) : (setPub l s).txseq = s.txseq := rfl
@[simp] theorem setPub_emit (l : List Climate) : (setPub l s).emit = s.emit := rfl
@[simp] theorem setPub_rxs (l : List Climate) : (setPub l s).rxs = s.rxs := rfl
@[simp] theorem setPub_rxc (l : List Climate) : (setPub l s).rxc = s.rxc := rfl
@[simp] theorem setPub_pub (l : List Climate) : (setPub l s).pub = l := rfl
@[simp] theorem setPub_dec (l : List Climate) : (setPub l s).dec = s.dec := rfl
@[simp] theorem setPub_inbox (l : List Climate) : (setPub l s).inbox = s.inbox := rfl
@[simp] theorem setPub_layout (l : List Climate) : layout (setPub l s) = layout s := rfl
@[simp] theorem setPub_timing (l : List Climate) : timing (setPub l s) = timing s := rfl
@[simp] theorem setPub_self : setPub s.pub s = s := rfl
@[simp] theorem setPub_setPub (l l' : List Climate) : setPub l (setPub l' s) = setPub l s := rfl

/-! ### setCs -/

@[simp] theorem setCs_build (c : Climate) : (setCs c s).build = s.build := rfl
@[simp] theorem setCs_cs (c : Climate) : (setCs c s).cs = c := rfl
@[simp] theorem setCs_txf (c : Climate) : (setCs c s).txf = s.txf := rfl
@[simp] theorem setCs_rxf (c : Climate) : (setCs c s).rxf = s.rxf := rfl
@[simp] theorem setCs_rd (c : Climate) : (setCs c s).rd = s.rd := rfl
@[simp] theorem setCs_k (c : Climate) : (setCs c s).k = s.k := rfl
@[simp] theorem setCs_res (c : Climate) : (setCs c s).res = s.res := rfl
@[simp] theorem setCs_aux (c : Climate) : (setCs c s).aux = s.aux := rfl
@[simp] theorem setCs_txcar (c : Climate) : (setCs c s).txcar = s.txcar := rfl
@[simp] theorem setCs_txseq (c : Climate) : (setCs c s).txseq = s.txseq := rfl
@[simp] theorem setCs_emit (c : Climate) : (setCs c s).emit = s.emit := rfl
@[simp] theorem setCs_rxs (c : Climate) : (setCs c s).rxs = s.rxs := rfl
@[simp] theorem setCs_rxc (c : Climate) : (setCs c s).rxc = s.rxc := rfl
@[simp] theorem setCs_pub (c : Climate) : (setCs c s).pub = s.pub := rfl
@[simp] theorem setCs_dec (c : Climate) : (setCs c s).dec = s.dec := rfl
@[simp] theorem setCs_inbox (c : Climate) : (setCs c s).inbox = s.inbox := rfl
@[simp] theorem setCs_layout (c : Climate) : layout (setCs c s) = layout s := rfl
@[simp] theorem setCs_timing (c : Climate) : timing (setCs c s) = timing s := rfl
@[simp] theorem setCs_self : setCs s.cs s = s := rfl
@[simp] theorem setCs_setCs (c c' : Climate) : setCs c (setCs c' s) = setCs c s := rfl

/-! ### setDec -/

@[simp] theorem setDec_build (c : Climate) : (setDec c s).build = s.build := rfl
@[simp] theorem setDec_cs (c : Climate) : (setDec c s).cs = s.cs := rfl
@[simp] theorem setDec_txf (c : Climate) : (setDec c s).txf = s.txf := rfl
@[simp] theorem setDec_rxf (c : Climate) : (setDec c s).rxf = s.rxf := rfl
@[simp] theorem setDec_rd (c : Climate) : (setDec c s).rd = s.rd := rfl
@[simp] theorem setDec_k (c : Climate) : (setDec c s).k = s.k := rfl
@[simp] theorem setDec_res (c : Climate) : (setDec c s).res = s.res := rfl
@[simp] theorem setDec_aux (c : Climate) : (setDec c s).aux = s.aux := rfl
@[simp] theorem setDec_txcar (c : Climate) : (setDec c s).txcar = s.txcar := rfl
@[simp] theorem setDec_txseq (c : Climate) : (setDec c s).txseq = s.txseq := rfl
@[simp] theorem setDec_emit (c : Climate) : (setDec c s).emit = s.emit := rfl
@[simp] theorem setDec_rxs (c : Climate) : (setDec c s).rxs = s.rxs := rfl
@[simp] theorem setDec_rxc (c : Climate) : (setDec c s).rxc = s.rxc := rfl
@[simp] theorem setDec_pub (c : Climate) : (setDec c s).pub = s.pub := rfl
@[simp] theorem setDec_dec (c : Climate) : (setDec c s).dec = c := rfl
@[simp] theorem setDec_inbox (c : Climate) : (setDec c s).inbox = s.inbox := rfl
@[simp] theorem setDec_layout (c : Climate) : layout (setDec c s) = layout s := rfl
@[simp] theorem setDec_timing (c : Climate) : timing (setDec c s) = timing s := rfl
@[simp] theorem setDec_self : setDec s.dec s = s := rfl
@[simp] theorem setDec_setDec (c c' : Climate) : setDec c (setDec c' s) = setDec c s := rfl

/-! ### setInbox -/

@[simp] theorem setInbox_build (l : List HostAct) : (setInbox l s).build = s.build := rfl
@[simp] theorem setInbox_cs (l : List HostAct) : (setInbox l s).cs = s.cs := rfl
@[simp] theorem setInbox_txf (l : List HostAct) : (setInbox l s).txf = s.txf := rfl
@[simp] theorem setInbox_rxf (l : List HostAct) : (setInbox l s).rxf = s.rxf := rfl
@[simp] theorem setInbox_rd (l : List HostAct) : (setInbox l s).rd = s.rd := rfl
@[simp] theorem setInbox_k (l : List HostAct) : (setInbox l s).k = s.k := rfl
@[simp] theorem setInbox_res (l : List HostAct) : (setInbox l s).res = s.res := rfl
@[simp] theorem setInbox_aux (l : List HostAct) : (setInbox l s).aux = s.aux := rfl
@[simp] theorem setInbox_txcar (l : List HostAct) : (setInbox l s).txcar = s.txcar := rfl
@[simp] theorem setInbox_txseq (l : List HostAct) : (setInbox l s).txseq = s.txseq := rfl
@[simp] theorem setInbox_emit (l : List HostAct) : (setInbox l s).emit = s.emit := rfl
@[simp] theorem setInbox_rxs (l : List HostAct) : (setInbox l s).rxs = s.rxs := rfl
@[simp] theorem setInbox_rxc (l : List HostAct) : (setInbox l s).rxc = s.rxc := rfl
@[simp] theorem setInbox_pub (l : List HostAct) : (setInbox l s).pub = s.pub := rfl
@[simp] theorem setInbox_dec (l : List HostAct) : (setInbox l s).dec = s.dec := rfl
@[simp] theorem setInbox_inbox (l : List HostAct) : (setInbox l s).inbox = l := rfl
@[simp] theorem setInbox_layout (l : List HostAct) : layout (setInbox l s) = layout s := rfl
@[simp] theorem setInbox_timing (l : List HostAct) : timing (setInbox l s) = timing s := rfl
@[simp] theorem setInbox_self : setInbox s.inbox s = s := rfl
@[simp] theorem setInbox_setInbox (l l' : List HostAct) : setInbox l (setInbox l' s) = setInbox l s := rfl

end Sys2Proof.Machine
end

