-- ==== Sys2Proof/Laws/Ports.lean ====
section
/-! SUPPORT. The three ports and the rejection: each operation as the updates it is, and everything RX.expect can do. -/

namespace Sys2Proof.Machine

variable (s : State)

@[simp] theorem txBegin_eq (f : Nat) : txBegin f s = setTxseq [] (setTxcar f s) := rfl

@[simp] theorem txMark_eq (d : Nat) : txMark d s = setTxseq (s.txseq ++ [.mark d]) s := rfl

@[simp] theorem txSpace_eq (d : Nat) : txSpace d s = setTxseq (s.txseq ++ [.space d]) s := rfl

@[simp] theorem txCommit_eq : txCommit s = setEmit (s.emit ++ [⟨s.txcar, s.txseq⟩]) s := rfl

@[simp] theorem handBurst_eq (l : List (Nat × Nat)) : handBurst l s = setRxc 0 (setRxs l s) := rfl

@[simp] theorem publish_eq : publish s = setPub (s.pub ++ [s.cs]) s := rfl

@[simp] theorem reject_eq (r : Reason) (p : Nat) : reject r p s = setRes ⟨false, r, p⟩ s := rfl

@[simp] theorem succeed_eq : succeed s = setRes ⟨true, .none, 71⟩ s := rfl

@[simp] theorem rejectHeader_eq : rejectHeader s = setRes ⟨false, .headerMismatch, 0⟩ s := rfl

@[simp] theorem rejectBit_eq : rejectBit s = setRes ⟨false, .bitMismatch, s.k⟩ s := rfl

@[simp] theorem ending_ok : ending (.ok s) = s := rfl

@[simp] theorem ending_error : ending (.error s) = s := rfl

variable {s} {mark space : Nat}

/-- The pair at the cursor matches: there is one, and both its durations match. -/
theorem pairMatches_iff : pairMatches mark space s = true ↔ ∃ p, s.rxs[s.rxc]? = some p ∧
    matchDuration s.build.tol mark p.1 = true ∧ matchDuration s.build.tol space p.2 = true := by
  unfold pairMatches
  cases s.rxs[s.rxc]? <;> simp

/-- RX.expect answers true by consuming the pair at the cursor. -/
theorem rxExpect_some {t : State} (h : rxExpect mark space s = some t) :
    pairMatches mark space s = true ∧ t = setRxc (s.rxc + 1) s := by
  unfold rxExpect at h
  split at h
  · exact ⟨by assumption, (Option.some.inj h).symm⟩
  · cases h

/-- RX.expect answers false where the pair does not match. -/
theorem rxExpect_none (h : rxExpect mark space s = none) : pairMatches mark space s = false := by
  unfold rxExpect at h
  split at h
  · cases h
  · rename_i hp; exact Bool.not_eq_true _ ▸ hp

/-- The cursor stays inside the burst. -/
theorem pairMatches_lt (h : pairMatches mark space s = true) : s.rxc < s.rxs.length := by
  obtain ⟨p, hp, -⟩ := pairMatches_iff.1 h
  exact (List.getElem?_eq_some_iff.1 hp).1

end Sys2Proof.Machine
end

