-- ==== Sys2Proof/Laws/Deserialize.lean ====
section
/-! SUPPORT. DESERIALIZE and its steps: all that each can do, whether it goes on or rejects. -/

namespace Sys2Proof.Machine

variable {s t : State} {b : Bool}

@[simp] theorem rxRewind_eq (s : State) : rxRewind s = setRxc 0 s := rfl

/-- RX_HEADER either consumes the first pair of the burst or rejects, wherever the cursor stood. -/
theorem rxHeader_cases (s : State) :
    (pairMatches (timing s).hdrMark (timing s).hdrSpace (setRxc 0 s) = true ∧ rxHeader s = .ok (setRxc 1 s)) ∨
    (pairMatches (timing s).hdrMark (timing s).hdrSpace (setRxc 0 s) = false ∧
      rxHeader s = .error (setRes ⟨false, .headerMismatch, 0⟩ (setRxc 0 s))) := by
  unfold rxHeader rxExpect
  rw [rxRewind_eq]
  cases pairMatches (timing s).hdrMark (timing s).hdrSpace (setRxc 0 s) <;> simp

/-- The two tests of RX_BIT: ONE first, then ZERO, else neither. -/
theorem rxTest_cases (s : State) :
    (pairMatches (timing s).bitMark (timing s).oneSpace s = true ∧ rxTest s = some (true, setRxc (s.rxc + 1) s)) ∨
    (pairMatches (timing s).bitMark (timing s).oneSpace s = false ∧
      pairMatches (timing s).bitMark (timing s).zeroSpace s = true ∧
      rxTest s = some (false, setRxc (s.rxc + 1) s)) ∨
    (pairMatches (timing s).bitMark (timing s).oneSpace s = false ∧
      pairMatches (timing s).bitMark (timing s).zeroSpace s = false ∧ rxTest s = none) := by
  unfold rxTest rxExpect
  cases pairMatches (timing s).bitMark (timing s).oneSpace s <;>
    cases pairMatches (timing s).bitMark (timing s).zeroSpace s <;> simp

/-- A test that reads a bit consumes the pair at the cursor, and there is one. -/
theorem rxTest_some (h : rxTest s = some (b, t)) : t = setRxc (s.rxc + 1) s ∧ s.rxc < s.rxs.length := by
  rcases rxTest_cases s with ⟨hm, h'⟩ | ⟨-, hm, h'⟩ | ⟨-, -, h'⟩ <;> rw [h'] at h <;>
    simp only [Option.some.injEq, Prod.mk.injEq, reduceCtorEq] at h
  · exact ⟨h.2.symm, pairMatches_lt hm⟩
  · exact ⟨h.2.symm, pairMatches_lt hm⟩

/-- The buffer after the bit `b` has been received. -/
def rxfAfter (b : Bool) (s : State) : Memory :=
  match b with
  | true => (setRxBit s).rxf
  | false => s.rxf

theorem rxAccept_eq (b : Bool) (s : State) : rxAccept b s = setK (s.k + 1) (setRxf (rxfAfter b s) s) := by
  cases b <;> rfl

/-- RX_BIT either accepts a bit or rejects at its position. -/
theorem rxBit_cases (s : State) :
    (∃ b, rxBit s = .ok (setRxc (s.rxc + 1) (setK (s.k + 1) (setRxf (rxfAfter b s) s))) ∧ s.rxc < s.rxs.length) ∨
    rxBit s = .error (rejectBit s) := by
  unfold rxBit
  rcases h : rxTest s with _ | ⟨b, t⟩
  · exact .inr rfl
  · obtain ⟨rfl, hlt⟩ := rxTest_some h
    refine .inl ⟨b, ?_, hlt⟩
    simp only [rxAccept_eq]
    cases b <;> rfl

theorem bitIdx_lt (o : BitOrder) {j : Nat} (h : j < 8) : bitIdx o j < 8 := by
  cases o <;> simp only [bitIdx] <;> omega

theorem bitIdx_inj (o : BitOrder) {i j : Nat} (hi : i < 8) (hj : j < 8) (h : bitIdx o i = bitIdx o j) : i = j := by
  cases o <;> simp only [bitIdx] at h <;> omega

/-- What each position of RXF carries after the bit at position `k` has been received. -/
theorem rxfAfter_bitAt (b : Bool) (s : State) (j : Nat) : bitAt (layout s).order (rxfAfter b s) j =
    (bitAt (layout s).order s.rxf j || (decide (j = s.k) && b)) := by
  cases b with
  | false => simp [rxfAfter]
  | true =>
    simp only [rxfAfter, setRxBit, setRxf_rxf, bitAt, readByte_writeByte, Bool.and_true]
    have hj : j % 8 < 8 := Nat.mod_lt _ (by decide)
    have hk : s.k % 8 < 8 := Nat.mod_lt _ (by decide)
    by_cases hq : j / 8 = s.k / 8
    · rw [if_pos hq, BitVec.getLsbD_or, hq]
      congr 1
      have h8 := bitIdx_lt (layout s).order hj
      by_cases hjk : j = s.k
      · subst hjk; simp [h8]
      · have hne : bitIdx (layout s).order (j % 8) ≠ bitIdx (layout s).order (s.k % 8) := fun h => by
          have := bitIdx_inj _ hj hk h
          omega
        simp only [BitVec.getLsbD_shiftLeft, hjk, decide_false]
        simp only [BitVec.getLsbD_one]
        have : ¬ bitIdx (layout s).order (j % 8) - bitIdx (layout s).order (s.k % 8) = 0 ∨
          bitIdx (layout s).order (j % 8) < bitIdx (layout s).order (s.k % 8) := by omega
        rcases this with h | h <;> simp [h]
    · rw [if_neg hq]
      have hjk : j ≠ s.k := fun h => hq (by rw [h])
      simp [hjk]

theorem rxfAfter_wf (b : Bool) (h : Memory.wf s.rxf = true) (hk : s.k < 71) : Memory.wf (rxfAfter b s) = true := by
  cases b with
  | false => exact h
  | true => exact Memory.wf_writeByte h (by omega) _

/-- The scan with `n` bits left: all accepted, or stopped at the first that is not. In either case only RXF, the sequencer
position and the cursor move, and a rejection writes RES. -/
theorem rxBits_cases (n : Nat) (s : State) :
    (∃ m, rxBits n s = .ok (setRxc (s.rxc + n) (setK (s.k + n) (setRxf m s)))) ∨
    (∃ m j, j < n ∧ rxBits n s =
      .error (setRes ⟨false, .bitMismatch, s.k + j⟩ (setRxc (s.rxc + j) (setK (s.k + j) (setRxf m s))))) := by
  induction n generalizing s with
  | zero => exact .inl ⟨s.rxf, rfl⟩
  | succ n ih =>
    rcases rxBit_cases s with ⟨b, h, -⟩ | h
    · simp only [rxBits, h]
      rcases ih (setRxc (s.rxc + 1) (setK (s.k + 1) (setRxf (rxfAfter b s) s))) with ⟨m, h'⟩ | ⟨m, j, hj, h'⟩
      · refine .inl ⟨m, h'.trans ?_⟩
        simp only [setRxc_rxc, setRxc_k, setK_k, show s.rxc + 1 + n = s.rxc + (n + 1) by omega,
          show s.k + 1 + n = s.k + (n + 1) by omega]
        rfl
      · refine .inr ⟨m, j + 1, by omega, h'.trans ?_⟩
        simp only [setRxc_rxc, setRxc_k, setK_k, show s.rxc + 1 + j = s.rxc + (j + 1) by omega,
          show s.k + 1 + j = s.k + (j + 1) by omega]
        rfl
    · refine .inr ⟨s.rxf, 0, by omega, ?_⟩
      simp only [rxBits, h]
      rfl

/-- The scan keeps the canonical form of RXF and the cursor inside the burst. -/
theorem rxBits_keeps (n : Nat) (s : State) (h : Memory.wf s.rxf = true) (hk : s.k + n ≤ 71)
    (hc : s.rxc ≤ s.rxs.length) :
    Memory.wf (ending (rxBits n s)).rxf = true ∧ (ending (rxBits n s)).rxc ≤ s.rxs.length := by
  induction n generalizing s with
  | zero => exact ⟨h, hc⟩
  | succ n ih =>
    rcases rxBit_cases s with ⟨b, hb, hlt⟩ | hb
    · simp only [rxBits, hb]
      exact ih _ (rxfAfter_wf b h (by omega)) (by simp; omega) hlt
    · simp only [rxBits, hb]
      exact ⟨h, hc⟩

/-- DESERIALIZE: all it can do. Only RXF, the sequencer position, the cursor and RES change. -/
theorem deserialize_cases (s : State) :
    (∃ m, deserialize s = .ok (setRes ⟨true, .none, 71⟩ (setRxc 72 (setK 71 (setRxf m s))))) ∨
    deserialize s = .error (setRes ⟨false, .headerMismatch, 0⟩ (setRxc 0 (setRxf [] s))) ∨
    (∃ m j, j < 71 ∧ deserialize s =
      .error (setRes ⟨false, .bitMismatch, j⟩ (setRxc (1 + j) (setK j (setRxf m s))))) := by
  unfold deserialize
  rcases rxHeader_cases (setRxf [] s) with ⟨-, h⟩ | ⟨-, h⟩ <;> rw [h]
  · rcases rxBits_cases nBits (setK 0 (setRxc 1 (setRxf [] s))) with ⟨m, h'⟩ | ⟨m, j, hj, h'⟩ <;> simp only [h']
    · exact .inl ⟨m, rfl⟩
    · refine .inr (.inr ⟨m, j, hj, ?_⟩)
      simp only [setK_rxc, setRxc_rxc, setK_k, Nat.zero_add]
      rfl
  · exact .inr (.inl rfl)

/-- DESERIALIZE asked for one reason: it is DESERIALIZE where that is the reason the burst gives, and nothing otherwise. -/
theorem deserializeTo_cases (r : Reason) (s : State) :
    ((ending (deserialize s)).res.reason = r ∧ deserializeTo r s = ending (deserialize s)) ∨
    ((ending (deserialize s)).res.reason ≠ r ∧ deserializeTo r s = s) := by
  unfold deserializeTo
  split <;> simp_all

end Sys2Proof.Machine
end

