-- ==== Sys2Proof/Laws/Pack.lean ====
section
/-! SUPPORT. PACK and its steps: each changes TXF alone, keeps its canonical form, and what every byte reads afterwards. -/

namespace Sys2Proof.Machine

variable (r : Rev) (s : State) (i j : Nat) (v : Byte)

theorem orTxf_eq : orTxf i v s = setTxf (orTxf i v s).txf s := rfl

theorem orTxf_read :
    readByte (orTxf i v s).txf j = readByte s.txf j ||| (if j = i then v else 0) := by
  simp only [orTxf, setTxf_txf, readByte_writeByte]
  split <;> simp_all

theorem orTxf_wf (h : Memory.wf s.txf = true) (hi : i < 9) : Memory.wf (orTxf i v s).txf = true :=
  Memory.wf_writeByte h hi _

/-- The bits the mode step ORs in: none for OFF and for a mode without a code. -/
def modeBits (r : Rev) (L : Layout) (m : Mode) : Byte :=
  match m with
  | .off => 0
  | m => (modeCode r L m).getD 0

/-- The bits the preset step ORs in. -/
def presetBits (L : Layout) (p : Preset) : Byte :=
  match p with
  | .sleep => L.nightMask
  | .none => 0

theorem packMode_eq : packMode r s = setTxf (packMode r s).txf s := by
  unfold packMode; split <;> [rfl; (split <;> rfl)]

theorem packTemp_eq : packTemp r s = setTxf (packTemp r s).txf s := rfl

theorem packFan_eq : packFan r s = setTxf (packFan r s).txf s := rfl

theorem packPreset_eq : packPreset r s = setTxf (packPreset r s).txf s := by
  unfold packPreset; split <;> rfl

theorem packMode_read : readByte (packMode r s).txf j = readByte s.txf j |||
    (if j = (layoutOf r s).modeByte.val then modeBits r (layoutOf r s) s.cs.mode else 0) := by
  unfold packMode modeBits
  rcases h : s.cs.mode with _ | _ | _ | _ | _ | _ <;> simp only [modeCode] <;>
    first
    | exact orTxf_read ..
    | (cases r <;> (try split) <;> simp_all [orTxf_read])

theorem packTemp_read : readByte (packTemp r s).txf j = readByte s.txf j |||
    (if j = (layoutOf r s).tempByte.val then tempBits (layoutOf r s) (sentTemp r s.cs) else 0) := orTxf_read ..

theorem packFan_read : readByte (packFan r s).txf j = readByte s.txf j |||
    (if j = (layoutOf r s).fanByte.val then fanCode (layoutOf r s) (sentFan r s.cs) else 0) := orTxf_read ..

theorem packPreset_read : readByte (packPreset r s).txf j = readByte s.txf j |||
    (if j = (layoutOf r s).nightByte.val then presetBits (layoutOf r s) s.cs.preset else 0) := by
  unfold packPreset presetBits
  split <;> simp_all [orTxf_read]

variable {r s}

theorem packMode_wf (h : Memory.wf s.txf = true) : Memory.wf (packMode r s).txf = true := by
  unfold packMode
  split
  · exact h
  · split
    · exact orTxf_wf _ _ _ h (by omega)
    · exact h

theorem packTemp_wf (h : Memory.wf s.txf = true) : Memory.wf (packTemp r s).txf = true := orTxf_wf _ _ _ h (by omega)

theorem packFan_wf (h : Memory.wf s.txf = true) : Memory.wf (packFan r s).txf = true := orTxf_wf _ _ _ h (by omega)

theorem packPreset_wf (h : Memory.wf s.txf = true) : Memory.wf (packPreset r s).txf = true := by
  unfold packPreset
  split
  · exact orTxf_wf _ _ _ h (by omega)
  · exact h

variable (s)

/-- PACK changes TXF alone. -/
theorem pack_eq : pack s = setTxf (pack s).txf s := by
  unfold pack
  rw [packPreset_eq, packFan_eq, packTemp_eq, packMode_eq]
  rfl

theorem pack_wf : Memory.wf (pack s).txf = true :=
  packPreset_wf (packFan_wf (packTemp_wf (packMode_wf Memory.wf_nil)))

/-- What each byte of TXF reads after PACK: the bits of the fields that lie in it. -/
theorem pack_read : readByte (pack s).txf j =
    (if j = (layout s).modeByte.val then modeBits s.build.rev (layout s) s.cs.mode else 0) |||
    (if j = (layout s).tempByte.val then tempBits (layout s) (sentTemp s.build.rev s.cs) else 0) |||
    (if j = (layout s).fanByte.val then fanCode (layout s) (sentFan s.build.rev s.cs) else 0) |||
    (if j = (layout s).nightByte.val then presetBits (layout s) s.cs.preset else 0) := by
  unfold pack
  rw [packPreset_read, packFan_read, packTemp_read, packMode_read]
  have h1 := packMode_eq s.build.rev (setTxf [] s)
  have h2 := packTemp_eq s.build.rev (packMode s.build.rev (setTxf [] s))
  have h3 := packFan_eq s.build.rev (packTemp s.build.rev (packMode s.build.rev (setTxf [] s)))
  have hL : ∀ m, layoutOf s.build.rev (setTxf m s) = layout s := fun _ => rfl
  rw [h3, h2, h1]
  simp only [setTxf_setTxf, hL, setTxf_cs, setTxf_txf, readByte_nil]
  congr 3
  exact BitVec.zero_or

end Sys2Proof.Machine
end

