-- ==== Sys2Proof/Laws/PerInstr.lean ====
section
/-! SUPPORT. Statements about every instruction, one lemma for each constructor. -/

namespace Sys2Proof.Laws

/-- A word is 1 to 10 bytes long: the table's numbering (`wordBytes`) holds every word. -/
def EncodeLength.Statement (i : Instr) : Prop := 1 ≤ (encode i).length ∧ (encode i).length ≤ 10

theorem EncodeLength.pack : EncodeLength.Statement .pack := ⟨by decide, by decide⟩

theorem EncodeLength.serialize : EncodeLength.Statement .serialize := ⟨by decide, by decide⟩

theorem EncodeLength.transmit : EncodeLength.Statement .transmit := ⟨by decide, by decide⟩

theorem EncodeLength.deserialize : EncodeLength.Statement .deserialize := ⟨by decide, by decide⟩

theorem EncodeLength.unpack : EncodeLength.Statement .unpack := ⟨by decide, by decide⟩

theorem EncodeLength.receive : EncodeLength.Statement .receive := ⟨by decide, by decide⟩

theorem EncodeLength.unassigned011 : EncodeLength.Statement .unassigned011 := ⟨by decide, by decide⟩

theorem EncodeLength.unassigned111 : EncodeLength.Statement .unassigned111 := ⟨by decide, by decide⟩

theorem EncodeLength.frameA (d : Dir) (n : BitVec 1) (m : BitVec 8) (t : BitVec 4) (f : BitVec 8) :
    EncodeLength.Statement (.frameA d n m t f) := ⟨Nat.le_add_left .., le_refl 10⟩

theorem EncodeLength.frameB (d : Dir) (m : BitVec 5) (t : BitVec 4) (s : BitVec 1) (f : BitVec 3) (n : BitVec 1) :
    EncodeLength.Statement (.frameB d m t s f n) := ⟨Nat.le_add_left .., le_refl 10⟩

theorem EncodeLength.frameC (d : Dir) (m : BitVec 3) (f : BitVec 2) (t : BitVec 4) (n : BitVec 1) (s : BitVec 1) :
    EncodeLength.Statement (.frameC d m f t n s) := ⟨Nat.le_add_left .., le_refl 10⟩

theorem EncodeLength.aModeOff (d : Dir) : EncodeLength.Statement (.aModeOff d) := ⟨Nat.le_add_left .., by cases d <;> decide⟩

theorem EncodeLength.aModeAuto (d : Dir) : EncodeLength.Statement (.aModeAuto d) := ⟨Nat.le_add_left .., by cases d <;> decide⟩

theorem EncodeLength.aModeDry (d : Dir) : EncodeLength.Statement (.aModeDry d) := ⟨Nat.le_add_left .., by cases d <;> decide⟩

theorem EncodeLength.aModeCool (d : Dir) : EncodeLength.Statement (.aModeCool d) := ⟨Nat.le_add_left .., by cases d <;> decide⟩

theorem EncodeLength.aModeFanOnly (d : Dir) : EncodeLength.Statement (.aModeFanOnly d) := ⟨Nat.le_add_left .., by cases d <;> decide⟩

theorem EncodeLength.aTemp (d : Dir) : EncodeLength.Statement (.aTemp d) := ⟨Nat.le_add_left .., by cases d <;> decide⟩

theorem EncodeLength.aFanAuto (d : Dir) : EncodeLength.Statement (.aFanAuto d) := ⟨Nat.le_add_left .., by cases d <;> decide⟩

theorem EncodeLength.aFanLow (d : Dir) : EncodeLength.Statement (.aFanLow d) := ⟨Nat.le_add_left .., by cases d <;> decide⟩

theorem EncodeLength.aFanMedium (d : Dir) : EncodeLength.Statement (.aFanMedium d) := ⟨Nat.le_add_left .., by cases d <;> decide⟩

theorem EncodeLength.aFanHigh (d : Dir) : EncodeLength.Statement (.aFanHigh d) := ⟨Nat.le_add_left .., by cases d <;> decide⟩

theorem EncodeLength.aNightNone (d : Dir) : EncodeLength.Statement (.aNightNone d) := ⟨Nat.le_add_left .., by cases d <;> decide⟩

theorem EncodeLength.aNightSleep (d : Dir) : EncodeLength.Statement (.aNightSleep d) := ⟨Nat.le_add_left .., by cases d <;> decide⟩

theorem EncodeLength.bModeOff (d : Dir) : EncodeLength.Statement (.bModeOff d) := ⟨Nat.le_add_left .., by cases d <;> decide⟩

theorem EncodeLength.bModeAuto (d : Dir) : EncodeLength.Statement (.bModeAuto d) := ⟨Nat.le_add_left .., by cases d <;> decide⟩

theorem EncodeLength.bModeCool (d : Dir) : EncodeLength.Statement (.bModeCool d) := ⟨Nat.le_add_left .., by cases d <;> decide⟩

theorem EncodeLength.bModeDry (d : Dir) : EncodeLength.Statement (.bModeDry d) := ⟨Nat.le_add_left .., by cases d <;> decide⟩

theorem EncodeLength.bModeFanOnly (d : Dir) : EncodeLength.Statement (.bModeFanOnly d) := ⟨Nat.le_add_left .., by cases d <;> decide⟩

theorem EncodeLength.bModeHeat (d : Dir) : EncodeLength.Statement (.bModeHeat d) := ⟨Nat.le_add_left .., by cases d <;> decide⟩

theorem EncodeLength.bTemp (d : Dir) : EncodeLength.Statement (.bTemp d) := ⟨Nat.le_add_left .., by cases d <;> decide⟩

theorem EncodeLength.bFanAuto (d : Dir) : EncodeLength.Statement (.bFanAuto d) := ⟨Nat.le_add_left .., by cases d <;> decide⟩

theorem EncodeLength.bFanLow (d : Dir) : EncodeLength.Statement (.bFanLow d) := ⟨Nat.le_add_left .., by cases d <;> decide⟩

theorem EncodeLength.bFanMedium (d : Dir) : EncodeLength.Statement (.bFanMedium d) := ⟨Nat.le_add_left .., by cases d <;> decide⟩

theorem EncodeLength.bFanHigh (d : Dir) : EncodeLength.Statement (.bFanHigh d) := ⟨Nat.le_add_left .., by cases d <;> decide⟩

theorem EncodeLength.bNightNone (d : Dir) : EncodeLength.Statement (.bNightNone d) := ⟨Nat.le_add_left .., by cases d <;> decide⟩

theorem EncodeLength.bNightSleep (d : Dir) : EncodeLength.Statement (.bNightSleep d) := ⟨Nat.le_add_left .., by cases d <;> decide⟩

theorem EncodeLength.cModeOff (d : Dir) : EncodeLength.Statement (.cModeOff d) := ⟨Nat.le_add_left .., by cases d <;> decide⟩

theorem EncodeLength.cModeCool (d : Dir) : EncodeLength.Statement (.cModeCool d) := ⟨Nat.le_add_left .., by cases d <;> decide⟩

theorem EncodeLength.cModeDry (d : Dir) : EncodeLength.Statement (.cModeDry d) := ⟨Nat.le_add_left .., by cases d <;> decide⟩

theorem EncodeLength.cModeFanOnly (d : Dir) : EncodeLength.Statement (.cModeFanOnly d) := ⟨Nat.le_add_left .., by cases d <;> decide⟩

theorem EncodeLength.cModeHeat (d : Dir) : EncodeLength.Statement (.cModeHeat d) := ⟨Nat.le_add_left .., by cases d <;> decide⟩

theorem EncodeLength.cModeAuto (d : Dir) : EncodeLength.Statement (.cModeAuto d) := ⟨Nat.le_add_left .., by cases d <;> decide⟩

theorem EncodeLength.cTemp (d : Dir) : EncodeLength.Statement (.cTemp d) := ⟨Nat.le_add_left .., by cases d <;> decide⟩

theorem EncodeLength.cFanLow (d : Dir) : EncodeLength.Statement (.cFanLow d) := ⟨Nat.le_add_left .., by cases d <;> decide⟩

theorem EncodeLength.cFanMedium (d : Dir) : EncodeLength.Statement (.cFanMedium d) := ⟨Nat.le_add_left .., by cases d <;> decide⟩

theorem EncodeLength.cFanHigh (d : Dir) : EncodeLength.Statement (.cFanHigh d) := ⟨Nat.le_add_left .., by cases d <;> decide⟩

theorem EncodeLength.cFanAuto (d : Dir) : EncodeLength.Statement (.cFanAuto d) := ⟨Nat.le_add_left .., by cases d <;> decide⟩

theorem EncodeLength.cNightNone (d : Dir) : EncodeLength.Statement (.cNightNone d) := ⟨Nat.le_add_left .., by cases d <;> decide⟩

theorem EncodeLength.cNightSleep (d : Dir) : EncodeLength.Statement (.cNightSleep d) := ⟨Nat.le_add_left .., by cases d <;> decide⟩

theorem EncodeLength.symHeader (d : Dir) : EncodeLength.Statement (.symHeader d) := ⟨Nat.le_add_left .., by cases d <;> decide⟩

theorem EncodeLength.symBit1 (d : Dir) : EncodeLength.Statement (.symBit1 d) := ⟨Nat.le_add_left .., by cases d <;> decide⟩

theorem EncodeLength.symBit0 (d : Dir) : EncodeLength.Statement (.symBit0 d) := ⟨Nat.le_add_left .., by cases d <;> decide⟩

theorem EncodeLength.symFinal (d : Dir) : EncodeLength.Statement (.symFinal d) := ⟨Nat.le_add_left .., by cases d <;> decide⟩

theorem EncodeLength.symGap (d : Dir) : EncodeLength.Statement (.symGap d) := ⟨Nat.le_add_left .., by cases d <;> decide⟩

theorem EncodeLength.reasonNone : EncodeLength.Statement .reasonNone := ⟨by decide, by decide⟩

theorem EncodeLength.reasonHeaderMismatch : EncodeLength.Statement .reasonHeaderMismatch := ⟨by decide, by decide⟩

theorem EncodeLength.reasonBitMismatch : EncodeLength.Statement .reasonBitMismatch := ⟨by decide, by decide⟩

end Sys2Proof.Laws
end

