-- ==== Sys2Proof/Laws/Serialize.lean ====
section
/-! SUPPORT. SERIALIZE and its symbols, each as the updates it is: what is appended to TXSEQ and where the sequencer ends. -/

namespace Sys2Proof.Machine

/-- The items of `n` data bits from position `k` on. -/
def bitItems (T : Timing) (o : BitOrder) (m : Memory) : Nat → Nat → List Item
  | 0, _ => []
  | n + 1, k => [.mark T.bitMark, .space (bitSpace T (bitAt o m k))] ++ bitItems T o m n (k + 1)

/-- The items of round `rd`, with the gap if another round follows. -/
def roundOf (T : Timing) (L : Layout) (m : Memory) (rd : Nat) : List Item :=
  [.mark T.hdrMark, .space T.hdrSpace] ++ bitItems T L.order m nBits 0 ++ [.mark T.finalMark] ++
    if rd < roundCount L.rounds then [.space T.gap] else []

variable (s : State)

theorem txHeader_eq :
    txHeader s = setTxseq (s.txseq ++ [.mark (timing s).hdrMark, .space (timing s).hdrSpace]) s := by
  simp [txHeader]

theorem txBit_eq (b : Bool) :
    txBit b s = setTxseq (s.txseq ++ [.mark (timing s).bitMark, .space (bitSpace (timing s) b)]) s := by
  simp [txBit]

theorem txFinal_eq : txFinal s = setTxseq (s.txseq ++ [.mark (timing s).finalMark]) s := rfl

theorem txGap_eq : txGap s =
    setTxseq (s.txseq ++ if s.rd < roundCount (layout s).rounds then [.space (timing s).gap] else []) s := by
  unfold txGap; split <;> simp

theorem txBits_eq (n : Nat) : txBits n s =
    setK (s.k + n) (setTxseq (s.txseq ++ bitItems (timing s) (layout s).order s.txf n s.k) s) := by
  induction n generalizing s with
  | zero => simp [txBits, bitItems]
  | succ n ih =>
    rw [txBits, ih, txBit_eq]
    simp only [setK_timing, setTxseq_timing, setK_layout, setTxseq_layout, setK_txf, setTxseq_txf, setK_k, setK_txseq,
      setTxseq_txseq, bitItems, List.append_assoc, show s.k + 1 + n = s.k + (n + 1) by omega]
    rfl

theorem txRound_eq (rd : Nat) : txRound rd s =
    setK nBits (setRd rd (setTxseq (s.txseq ++ roundOf (timing s) (layout s) s.txf rd) s)) := by
  simp only [txRound, txHeader_eq, txBits_eq, txFinal_eq, txGap_eq, roundOf]
  simp only [setK_txseq, setTxseq_txseq, setRd_txseq, setK_timing, setTxseq_timing, setRd_timing, setK_layout,
    setTxseq_layout, setRd_layout, setK_rd, setTxseq_rd, setRd_rd, setK_txf, setTxseq_txf, setRd_txf, setK_k,
    List.append_assoc, Nat.zero_add]
  rfl

/-- The items of a transmission. -/
def itemsOf (T : Timing) (L : Layout) (m : Memory) : List Item :=
  match L.rounds with
  | .one => roundOf T L m 1
  | .two => roundOf T L m 1 ++ roundOf T L m 2

theorem txRounds_eq : txRounds s = setK nBits (setRd (roundCount (layout s).rounds)
    (setTxseq (s.txseq ++ itemsOf (timing s) (layout s) s.txf) s)) := by
  unfold txRounds itemsOf
  split
  · rename_i h; rw [txRound_eq, h]; rfl
  · rename_i h
    rw [txRound_eq, txRound_eq, h]
    simp only [setK_txseq, setTxseq_txseq, setRd_txseq, setK_timing, setTxseq_timing, setRd_timing, setK_layout,
      setTxseq_layout, setRd_layout, setK_txf, setTxseq_txf, setRd_txf, List.append_assoc]
    rfl

/-- SERIALIZE: one event, TXSEQ and TXCAR, and the sequencer at its end; nothing else. -/
theorem serialize_eq : serialize s =
    setEmit (s.emit ++ [⟨38000, itemsOf (timing s) (layout s) s.txf⟩]) (setK 71 (setRd (roundCount (layout s).rounds)
      (setTxseq (itemsOf (timing s) (layout s) s.txf) (setTxcar 38000 s)))) := by
  simp only [serialize, txBegin_eq, txCommit_eq, txRounds_eq]
  simp only [setTxseq_txseq, setTxseq_layout, setTxcar_layout, setTxseq_timing, setTxcar_timing, setTxseq_txf,
    setTxcar_txf, List.nil_append]
  rfl

end Sys2Proof.Machine
end

