-- ==== Sys2Proof/Laws/Unpack.lean ====
section
/-! SUPPORT. UNPACK as one update, and the domains of what it writes. -/

namespace Sys2Proof.Machine

variable (s : State)

/-- The state UNPACK decodes from RXF and the prior fan. -/
def decoded (r : Rev) (s : State) : Climate := ⟨rxMode r s, rxTemp r s, (rxFan r s).getD s.cs.fan, rxPreset r s⟩

theorem unpackAux_eq : unpackAux s =
    setAux (if s.build.rev = .C then Config.auxC (frameBytes s.rxf) else s.aux) s := by
  unfold unpackAux
  cases h : s.build.rev <;> simp

/-- UNPACK writes CS, `dec` and, in revision C, AUX; nothing else. -/
theorem unpack_eq : unpack s =
    setCs (decoded s.build.rev s) (setAux (if s.build.rev = .C then Config.auxC (frameBytes s.rxf) else s.aux)
      (setDec (decoded s.build.rev s) s)) := by
  unfold unpack writeBack
  rw [unpackAux_eq]
  rfl

theorem clampTemp_mem (x : Int) : 18 ≤ clampTemp x ∧ clampTemp x ≤ 30 := by
  unfold clampTemp clamp tempMin tempMax
  split
  · omega
  · split <;> omega

theorem rxTemp_mem (r : Rev) : 18 ≤ rxTemp r s ∧ rxTemp r s ≤ 30 := clampTemp_mem _

theorem modeOf_mem (r : Rev) (L : Layout) (v : Byte) : modeOf r L v = .off ∨ modeOf r L v ∈ modeArms r := by
  unfold modeOf
  cases h : (modeArms r).find? fun m => decide (modeCode r L m = some v) with
  | none => exact .inl rfl
  | some m => exact .inr (List.mem_of_find?_eq_some h)

/-- Revision A never decodes HEAT (43_unpack.md R181, R198). -/
theorem rxMode_supported (r : Rev) : ¬(r = .A ∧ rxMode r s = .heat) := by
  rintro ⟨rfl, h⟩
  rcases modeOf_mem .A (s.build.layout.get .A) (rxField (s.build.layout.get .A).modeByte (s.build.layout.get .A).modeMask s)
    with h' | h' <;> rw [show modeOf .A _ _ = Mode.heat from h] at h' <;> simp [modeArms] at h'

end Sys2Proof.Machine
end

