-- ==== Sys2Proof/Tests/Slice0.lean ====
section
/-! SUPPORT. Tests: expected results are the spec's vectors (95_test_vectors.md, named V<n>), its tables, or worked out by hand
from the cited rule. After them, for each statement with hypotheses, a state and operands that meet them. -/

namespace Sys2Proof.Tests

open Sys2Proof.Machine

/-! ## Helpers -/

/-- The block of revision `r` with `c` in CS. -/
def bench (r : Rev) (c : Climate) : State := { State.reset with build := referenceBuild r, cs := c }

/-- The prior state of the spec's rejection vectors. -/
def prior : Climate := ⟨.cool, 22, .low, .none⟩

/-- The same with a frame in RXF. -/
def heard (r : Rev) (c : Climate) (frame : List Byte) : State := setRxf (writeBytes [] 0 frame) (bench r c)

/-- The same with a burst at the receive port. -/
def given (r : Rev) (burst : List (Nat × Nat)) : State := handBurst burst (bench r prior)

/-- One instruction, and what `f` sees of the next state. -/
def after {α : Type} (i : Instr) (s : State) (f : State → α) : Option α :=
  match exec i s with
  | .next t => some (f t)
  | .fault _ => none
  | .refused _ => none

/-- One step, and what `f` sees of the next state. -/
def stepped {α : Type} (s : State) (f : State → α) : Option α :=
  match step s with
  | .next t => some (f t)
  | .fault _ => none
  | .refused _ => none

/-- The whole of a word read as one instruction. -/
def reads (word : List Byte) (i : Instr) : Bool :=
  match decode word with
  | .ok (j, rest) => decide (j = i ∧ rest = [])
  | .error _ => false

/-- A burst of revision B: the header and `n` data pairs, of which the even ones carry a 1. -/
def burstB (n : Nat) : List (Nat × Nat) := (390, 390) :: (List.range n).map fun k => (390, if k % 2 = 0 then 1340 else 970)

/-! ## Well-formedness: one ill-formed term for each check -/

theorem test_wf_frameA : ¬Instr.WellFormed (.frameA .rx 0 0x18 8 0x83) := by decide

theorem test_wf_frameB : ¬Instr.WellFormed (.frameB .rx 0x10 15 1 3 1) := by decide

theorem test_wf_frameC : ¬Instr.WellFormed (.frameC .rx 5 3 6 1 1) := by decide

theorem test_wf_frame_sent : Instr.WellFormed (.frameB .tx 0x10 15 1 3 1) := by decide

/-- 30_encoding.md R79 (b), distinct. -/
theorem test_wf_modes_distinct : ¬Layout.WfModes { layoutA with modeCodes := ⟨0x08, 0x18, 0x08, 0x20, none⟩ } := by decide

/-- R79 (b), non-zero. -/
theorem test_wf_modes_nonzero : ¬Layout.WfModes { layoutA with modeCodes := ⟨0x08, 0x18, 0x10, 0x00, none⟩ } := by decide

/-- R79 (b), under the mask. -/
theorem test_wf_modes_masked : ¬Layout.WfModes { layoutB with modeMask := 0x0F } := by decide

/-- R79 (c), distinct. -/
theorem test_wf_fans_distinct : ¬Layout.WfFans { layoutC with fanCodes := ⟨0x30, 0x00, 0x10, 0x10⟩ } := by decide

/-- R79 (c), under the mask. -/
theorem test_wf_fans_masked : ¬Layout.WfFans { layoutC with fanMask := 0x10 } := by decide

/-- R79 (d). -/
theorem test_wf_temp : ¬Layout.WfTemp { layoutB with tempShift := 5 } := by decide

/-- R79 (e), no bit and two bits. -/
theorem test_wf_night : ¬Layout.WfNight { layoutA with nightMask := 0 } ∧ ¬Layout.WfNight { layoutA with nightMask := 3 } := by
  decide

/-- R79 (f): the fan on the night-mode bit. -/
theorem test_wf_regions : ¬Layout.WfRegions { layoutB with fanMask := 0x0F } := by decide

/-- R79 (g): the night-mode flag on the never-sent bit. -/
theorem test_wf_skipped_night : ¬Layout.WfSkipped { layoutB with nightMask := 0x80 } := by
  unfold Layout.WfSkipped Layout.Sent; decide

/-- R79 (g): a fan code on it. -/
theorem test_wf_skipped_fan : ¬Layout.WfSkipped { layoutA with order := .msb } := by
  unfold Layout.WfSkipped Layout.Sent; decide

/-- R79 (g): a mode code on it. -/
theorem test_wf_skipped_mode : ¬Layout.WfSkipped { layoutC with modeByte := 8 } := by
  unfold Layout.WfSkipped Layout.Sent; decide

/-- R79 (g): the temperature on it. -/
theorem test_wf_skipped_temp : ¬Layout.WfSkipped { layoutB with tempByte := 8 } := by
  unfold Layout.WfSkipped Layout.Sent; decide

/-- R79 (h): COOL's code in A, the night-mode bit in B, the mode's byte in C; and HEAT's code (10_state.md R21). -/
theorem test_wf_settled :
    ¬Layout.WfSettled { layoutA with modeCodes := ⟨0x08, 0x1C, 0x10, 0x20, none⟩ } .A ∧
    ¬Layout.WfSettled { layoutB with nightMask := 0x10 } .B ∧ ¬Layout.WfSettled { layoutC with modeByte := 3 } .C ∧
    ¬Layout.WfSettled layoutB .A ∧ ¬Layout.WfSettled { layoutB with modeCodes := ⟨1, 2, 4, 8, none⟩ } .B := by
  simp only [Layout.WfSettled]; decide

/-- R79 (h): in C no other field lies in byte 0, so that OFF gives it 0x00 (00_scope.md R9). -/
theorem test_wf_settled_off :
    ¬Layout.WfSettled { layoutC with tempByte := 0, tempShift := 4 } .C ∧ ¬Layout.WfSettled { layoutC with fanByte := 0 } .C ∧
    ¬Layout.WfSettled { layoutC with nightByte := 0, nightMask := 0x80 } .C := by
  simp only [Layout.WfSettled]; decide

/-! ## Decoding: every row's word, written from the table in the word format of log 1 -/

theorem test_decode_op : [([0b000], Instr.pack), ([0b001], .serialize), ([0b010], .transmit), ([0b011], .unassigned011),
    ([0b100], .deserialize), ([0b101], .unpack), ([0b110], .receive), ([0b111], .unassigned111)].all
    (fun p => reads p.1 p.2) = true := by decide

theorem test_decode_reason : [([0b01000], Instr.reasonNone), ([0b01001], .reasonHeaderMismatch),
    ([0b01010], .reasonBitMismatch)].all (fun p => reads p.1 p.2) = true := by decide

theorem test_decode_symbol : [([0x10, 0], Instr.symHeader .tx), ([0x10, 1], .symBit1 .tx), ([0x10, 2], .symBit0 .tx),
    ([0x10, 3], .symFinal .tx), ([0x10, 4], .symGap .tx), ([0x14, 0], .symHeader .rx), ([0x14, 1], .symBit1 .rx),
    ([0x14, 2], .symBit0 .rx), ([0x14, 3], .symFinal .rx), ([0x14, 4], .symGap .rx)].all
    (fun p => reads p.1 p.2) = true := by decide

theorem test_decode_field_a_tx : [([0x18, 6, 0xFF, 0x00], Instr.aModeOff .tx), ([0x18, 6, 0xFF, 0x08], .aModeAuto .tx),
    ([0x18, 6, 0xFF, 0x10], .aModeDry .tx), ([0x18, 6, 0xFF, 0x18], .aModeCool .tx),
    ([0x18, 6, 0xFF, 0x20], .aModeFanOnly .tx), ([0x18, 7, 0x0F, 0x00], .aTemp .tx),
    ([0x18, 8, 0xFF, 0x01], .aFanAuto .tx), ([0x18, 8, 0xFF, 0x02], .aFanLow .tx),
    ([0x18, 8, 0xFF, 0x03], .aFanMedium .tx), ([0x18, 8, 0xFF, 0x04], .aFanHigh .tx),
    ([0x18, 5, 0x01, 0x00], .aNightNone .tx), ([0x18, 5, 0x01, 0x01], .aNightSleep .tx)].all
    (fun p => reads p.1 p.2) = true := by decide

theorem test_decode_field_a_rx : [([0x1C, 6, 0xFF, 0x00], Instr.aModeOff .rx), ([0x1C, 6, 0xFF, 0x08], .aModeAuto .rx),
    ([0x1C, 6, 0xFF, 0x10], .aModeDry .rx), ([0x1C, 6, 0xFF, 0x18], .aModeCool .rx),
    ([0x1C, 6, 0xFF, 0x20], .aModeFanOnly .rx), ([0x1C, 7, 0x0F, 0x00], .aTemp .rx),
    ([0x1C, 8, 0xFF, 0x01], .aFanAuto .rx), ([0x1C, 8, 0xFF, 0x02], .aFanLow .rx),
    ([0x1C, 8, 0xFF, 0x03], .aFanMedium .rx), ([0x1C, 8, 0xFF, 0x04], .aFanHigh .rx),
    ([0x1C, 5, 0x01, 0x00], .aNightNone .rx), ([0x1C, 5, 0x01, 0x01], .aNightSleep .rx)].all
    (fun p => reads p.1 p.2) = true := by decide

theorem test_decode_field_b_tx : [([0x20, 6, 0x1F, 0x00], Instr.bModeOff .tx), ([0x20, 6, 0x1F, 0x01], .bModeAuto .tx),
    ([0x20, 6, 0x1F, 0x02], .bModeCool .tx), ([0x20, 6, 0x1F, 0x04], .bModeDry .tx),
    ([0x20, 6, 0x1F, 0x08], .bModeFanOnly .tx), ([0x20, 6, 0x1F, 0x10], .bModeHeat .tx),
    ([0x20, 7, 0xF0, 0x00], .bTemp .tx), ([0x20, 8, 0x0E, 0x00], .bFanAuto .tx), ([0x20, 8, 0x0E, 0x02], .bFanLow .tx),
    ([0x20, 8, 0x0E, 0x04], .bFanMedium .tx), ([0x20, 8, 0x0E, 0x06], .bFanHigh .tx),
    ([0x20, 8, 0x01, 0x00], .bNightNone .tx), ([0x20, 8, 0x01, 0x01], .bNightSleep .tx)].all
    (fun p => reads p.1 p.2) = true := by decide

theorem test_decode_field_b_rx : [([0x24, 6, 0x1F, 0x00], Instr.bModeOff .rx), ([0x24, 6, 0x1F, 0x01], .bModeAuto .rx),
    ([0x24, 6, 0x1F, 0x02], .bModeCool .rx), ([0x24, 6, 0x1F, 0x04], .bModeDry .rx),
    ([0x24, 6, 0x1F, 0x08], .bModeFanOnly .rx), ([0x24, 6, 0x1F, 0x10], .bModeHeat .rx),
    ([0x24, 7, 0xF0, 0x00], .bTemp .rx), ([0x24, 8, 0x0E, 0x00], .bFanAuto .rx), ([0x24, 8, 0x0E, 0x02], .bFanLow .rx),
    ([0x24, 8, 0x0E, 0x04], .bFanMedium .rx), ([0x24, 8, 0x0E, 0x06], .bFanHigh .rx),
    ([0x24, 8, 0x01, 0x00], .bNightNone .rx), ([0x24, 8, 0x01, 0x01], .bNightSleep .rx)].all
    (fun p => reads p.1 p.2) = true := by decide

theorem test_decode_field_c_tx : [([0x28, 0, 0x07, 0x00], Instr.cModeOff .tx), ([0x28, 0, 0x07, 0x01], .cModeCool .tx),
    ([0x28, 0, 0x07, 0x02], .cModeDry .tx), ([0x28, 0, 0x07, 0x03], .cModeFanOnly .tx),
    ([0x28, 0, 0x07, 0x04], .cModeHeat .tx), ([0x28, 0, 0x07, 0x05], .cModeAuto .tx),
    ([0x28, 1, 0x0F, 0x00], .cTemp .tx), ([0x28, 1, 0x30, 0x00], .cFanLow .tx),
    ([0x28, 1, 0x30, 0x10], .cFanMedium .tx), ([0x28, 1, 0x30, 0x20], .cFanHigh .tx),
    ([0x28, 1, 0x30, 0x30], .cFanAuto .tx), ([0x28, 2, 0x01, 0x00], .cNightNone .tx),
    ([0x28, 2, 0x01, 0x01], .cNightSleep .tx)].all
    (fun p => reads p.1 p.2) = true := by decide

theorem test_decode_field_c_rx : [([0x2C, 0, 0x07, 0x00], Instr.cModeOff .rx), ([0x2C, 0, 0x07, 0x01], .cModeCool .rx),
    ([0x2C, 0, 0x07, 0x02], .cModeDry .rx), ([0x2C, 0, 0x07, 0x03], .cModeFanOnly .rx),
    ([0x2C, 0, 0x07, 0x04], .cModeHeat .rx), ([0x2C, 0, 0x07, 0x05], .cModeAuto .rx),
    ([0x2C, 1, 0x0F, 0x00], .cTemp .rx), ([0x2C, 1, 0x30, 0x00], .cFanLow .rx),
    ([0x2C, 1, 0x30, 0x10], .cFanMedium .rx), ([0x2C, 1, 0x30, 0x20], .cFanHigh .rx),
    ([0x2C, 1, 0x30, 0x30], .cFanAuto .rx), ([0x2C, 2, 0x01, 0x00], .cNightNone .rx),
    ([0x2C, 2, 0x01, 0x01], .cNightSleep .rx)].all
    (fun p => reads p.1 p.2) = true := by decide

/-- The frames of V1, V7 and V13; unassigned bits of a word are ignored, and the never-sent bit of a received frame. -/
theorem test_decode_frame : [
    ([0x30, 0, 0, 0, 0, 0, 0, 0x18, 0x08, 0x03], Instr.frameA .tx 0 0x18 8 0x03),
    ([0x34, 1, 2, 3, 4, 5, 0xFF, 0x18, 0xF8, 0x83], .frameA .rx 1 0x18 8 0x03),
    ([0x38, 0, 0, 0, 0, 0, 0, 0x10, 0xF0, 0x87], .frameB .tx 0x10 15 1 3 1),
    ([0x3C, 0, 0, 0, 0, 0, 0, 0xF0, 0xFF, 0xF7], .frameB .rx 0x10 15 0 3 1),
    ([0x40, 0x05, 0x36, 0x01, 0, 0, 0, 0, 0, 0x01], .frameC .tx 5 3 6 1 1),
    ([0x44, 0x05, 0x36, 0x01, 0, 0, 0, 0, 0, 0x01], .frameC .rx 5 3 6 1 0)].all
    (fun p => reads p.1 p.2) = true := by decide

/-- Words of the table as the host numbers their bits. -/
theorem test_table_word : decodeTableWord 8 2 = some .transmit ∧ decodeTableWord 8 0x0B = none := by decide

/-! ## PACK and TRANSMIT -/

theorem test_pack_v2 : after .pack (bench .A ⟨.dry, 30, .low, .sleep⟩) (fun t => (frameBytes t.txf, t.cs.temp)) =
    some ([0, 0, 0, 0, 0, 0x01, 0x10, 0x09, 0x02], 30) := by decide

/-- V13 over a buffer that held something else (V20). -/
theorem test_pack_v13 : after .pack (setTxf [(8, 0xFF)] (bench .C ⟨.auto, 21, .low, .sleep⟩))
    (fun t => (frameBytes t.txf, t.cs.fan)) = some ([0x05, 0x36, 0x01, 0, 0, 0, 0, 0, 0], .low) := by decide

/-- P1: 291 items on 38 kHz. -/
theorem test_transmit_p1 : after .transmit (bench .A ⟨.cool, 23, .medium, .none⟩)
    (fun t => (frameBytes t.txf, t.emit.map fun e => (e.carrier, e.items.length))) =
    some ([0, 0, 0, 0, 0, 0, 0x18, 0x08, 0x03], [(38000, 291)]) := by decide +kernel

/-! ## SERIALIZE -/

/-- V32: the positions of the 1 bits, most significant bit first. -/
theorem test_serialize_v32 : after .serialize (setTxf (writeBytes [] 0 [0x05, 0x36, 0x01]) (bench .C prior))
    (fun t => ((pairs 0 (lastItems t)).tail.findIdxs fun p => decide (p.2 = 1330), totalDuration t.txseq)) =
    some ([5, 7, 10, 11, 13, 14, 23], 101310) := by decide +kernel

/-- V30: the gap is item 146, and the two rounds with it last 213960 microseconds. -/
theorem test_serialize_v30 : after .serialize
    (setTxf (writeBytes [] 0 [0, 0, 0, 0, 0, 0, 0x18, 0x08, 0x03]) (bench .A prior))
    (fun t => (t.txseq[145]?, t.txseq.length, totalDuration t.txseq)) = some (some (.space 17500), 291, 213960) := by
  decide +kernel

/-! ## DESERIALIZE and RECEIVE -/

/-- V49: the burst ends one bit early. -/
theorem test_deserialize_v49 : after .deserialize (given .B (burstB 70)) (fun t => (t.res, t.rxc, t.cs)) =
    some (⟨false, .bitMismatch, 70⟩, 71, prior) := by decide +kernel

/-- Even positions read 1, least significant bit first, the never-sent bit reads 0 (42_deserialize.md R165, R167), and the scan
starts at the first pair though the cursor is at 72 (R163, R170). -/
theorem test_deserialize_all : after .deserialize (setRxc 72 (given .B (burstB 71))) (fun t => (t.res, t.rxc, frameBytes t.rxf)) =
    some (⟨true, .none, 71⟩, 72, [0x55, 0x55, 0x55, 0x55, 0x55, 0x55, 0x55, 0x55, 0x55]) := by decide +kernel

/-- The frame of that burst by the tables of 30_encoding.md R67 to R71: mode field 0x15 unknown, temperature field 5, fan field
0x04, night-mode flag set. -/
theorem test_receive_all : after .receive (given .B (burstB 71)) (fun t => (t.cs, t.pub, t.res.ok)) =
    some (⟨.off, 20, .medium, .sleep⟩, [⟨.off, 20, .medium, .sleep⟩], true) := by decide +kernel

/-- V51 as a RECEIVE: nothing is published and CS stays. -/
theorem test_receive_v51 : after .receive (given .B []) (fun t => (t.res, t.cs, t.pub)) =
    some (⟨false, .headerMismatch, 0⟩, prior, []) := by decide

/-! ## UNPACK -/

theorem test_unpack_v65 : after .unpack (heard .A ⟨.off, 18, .high, .none⟩ [0, 0, 0, 0, 0, 0, 0x19, 0x0F, 0x05])
    (fun t => t.cs) = some ⟨.off, 30, .high, .none⟩ := by decide

theorem test_unpack_v70 : after .unpack (heard .B ⟨.off, 18, .low, .none⟩ [0, 0, 0, 0, 0, 0, 0xE4, 0x90, 0x75])
    (fun t => t.cs) = some ⟨.dry, 24, .medium, .sleep⟩ := by decide

theorem test_unpack_v74 : after .unpack (heard .C ⟨.off, 18, .low, .sleep⟩ [0xF9, 0xD1, 0xFE])
    (fun t => t.cs) = some ⟨.cool, 18, .medium, .none⟩ := by decide

/-! ## The codes that are refused -/

theorem test_unassigned : exec .unassigned011 State.reset = .refused (.unassignedCode 0b011) ∧
    exec .unassigned111 State.reset = .refused (.unassignedCode 0b111) := ⟨rfl, rfl⟩

/-! ## Frame rows -/

/-- V7's frame with the never-sent bit set: it stays in TXF, and is 0 in RXF. -/
theorem test_frame_b : after (.frameB .tx 0x10 15 1 3 1) State.reset (fun t => frameBytes t.txf) =
      some [0, 0, 0, 0, 0, 0, 0x10, 0xF0, 0x87] ∧
    after (.frameB .rx 0x10 15 1 3 1) State.reset (fun t => frameBytes t.rxf) =
      some [0, 0, 0, 0, 0, 0, 0x10, 0xF0, 0x07] := by decide

theorem test_frame_a : after (.frameA .tx 1 0x10 9 0x82) State.reset (fun t => frameBytes t.txf) =
      some [0, 0, 0, 0, 0, 0x01, 0x10, 0x09, 0x82] ∧
    after (.frameA .rx 1 0x10 9 0x82) State.reset (fun t => frameBytes t.rxf) =
      some [0, 0, 0, 0, 0, 0x01, 0x10, 0x09, 0x02] := by decide

theorem test_frame_c : after (.frameC .tx 5 3 6 1 1) State.reset (fun t => frameBytes t.txf) =
      some [0x05, 0x36, 0x01, 0, 0, 0, 0, 0, 0x01] ∧
    after (.frameC .rx 5 3 6 1 1) State.reset (fun t => frameBytes t.rxf) =
      some [0x05, 0x36, 0x01, 0, 0, 0, 0, 0, 0] := by decide

/-! ## Field rows: the byte each writes where its value is in CS, over a buffer whose bytes hold a bit already -/

/-- What byte `b` of TXF, which held 0x40, holds after a row. -/
def sent (i : Instr) (c : Climate) (b : Nat) : Option Byte :=
  after i (setTxf (writeBytes [] 0 (List.replicate 9 0x40)) (bench .A c)) fun t => readByte t.txf b

/-- 40_pack.md R106 to R109. -/
theorem test_field_a_tx : [(Instr.aModeOff .tx, (⟨.off, 23, .low, .none⟩ : Climate), 6, (0x40 : Byte)),
    (.aModeAuto .tx, ⟨.auto, 23, .low, .none⟩, 6, 0x48), (.aModeDry .tx, ⟨.dry, 23, .low, .none⟩, 6, 0x50),
    (.aModeCool .tx, ⟨.cool, 23, .low, .none⟩, 6, 0x58), (.aModeFanOnly .tx, ⟨.fanOnly, 23, .low, .none⟩, 6, 0x60),
    (.aTemp .tx, ⟨.cool, 23, .low, .none⟩, 7, 0x48), (.aFanAuto .tx, ⟨.cool, 23, .auto, .none⟩, 8, 0x41),
    (.aFanLow .tx, ⟨.cool, 23, .low, .none⟩, 8, 0x42), (.aFanMedium .tx, ⟨.cool, 23, .medium, .none⟩, 8, 0x43),
    (.aFanHigh .tx, ⟨.cool, 23, .high, .none⟩, 8, 0x44), (.aNightNone .tx, ⟨.cool, 23, .low, .none⟩, 5, 0x40),
    (.aNightSleep .tx, ⟨.cool, 23, .low, .sleep⟩, 5, 0x41)].all
    (fun p => decide (sent p.1 p.2.1 p.2.2.1 = some p.2.2.2)) = true := by decide

/-- 40_pack.md R110 to R113. -/
theorem test_field_b_tx : [(Instr.bModeOff .tx, (⟨.off, 23, .low, .none⟩ : Climate), 6, (0x40 : Byte)),
    (.bModeAuto .tx, ⟨.auto, 23, .low, .none⟩, 6, 0x41), (.bModeCool .tx, ⟨.cool, 23, .low, .none⟩, 6, 0x42),
    (.bModeDry .tx, ⟨.dry, 23, .low, .none⟩, 6, 0x44), (.bModeFanOnly .tx, ⟨.fanOnly, 23, .low, .none⟩, 6, 0x48),
    (.bModeHeat .tx, ⟨.heat, 23, .low, .none⟩, 6, 0x50), (.bTemp .tx, ⟨.cool, 23, .low, .none⟩, 7, 0xC0),
    (.bFanAuto .tx, ⟨.cool, 23, .auto, .none⟩, 8, 0x40), (.bFanLow .tx, ⟨.cool, 23, .low, .none⟩, 8, 0x42),
    (.bFanMedium .tx, ⟨.cool, 23, .medium, .none⟩, 8, 0x44), (.bFanHigh .tx, ⟨.cool, 23, .high, .none⟩, 8, 0x46),
    (.bNightNone .tx, ⟨.cool, 23, .low, .none⟩, 8, 0x40), (.bNightSleep .tx, ⟨.cool, 23, .low, .sleep⟩, 8, 0x41)].all
    (fun p => decide (sent p.1 p.2.1 p.2.2.1 = some p.2.2.2)) = true := by decide

/-- 40_pack.md R114 to R117. -/
theorem test_field_c_tx : [(Instr.cModeOff .tx, (⟨.off, 23, .low, .none⟩ : Climate), 0, (0x40 : Byte)),
    (.cModeCool .tx, ⟨.cool, 23, .low, .none⟩, 0, 0x41), (.cModeDry .tx, ⟨.dry, 23, .low, .none⟩, 0, 0x42),
    (.cModeFanOnly .tx, ⟨.fanOnly, 23, .low, .none⟩, 0, 0x43), (.cModeHeat .tx, ⟨.heat, 23, .low, .none⟩, 0, 0x44),
    (.cModeAuto .tx, ⟨.auto, 23, .low, .none⟩, 0, 0x45), (.cTemp .tx, ⟨.cool, 23, .low, .none⟩, 1, 0x48),
    (.cFanLow .tx, ⟨.cool, 23, .low, .none⟩, 1, 0x40), (.cFanMedium .tx, ⟨.cool, 23, .medium, .none⟩, 1, 0x50),
    (.cFanHigh .tx, ⟨.cool, 23, .high, .none⟩, 1, 0x60), (.cFanAuto .tx, ⟨.cool, 23, .auto, .none⟩, 1, 0x70),
    (.cNightNone .tx, ⟨.cool, 23, .low, .none⟩, 2, 0x40), (.cNightSleep .tx, ⟨.cool, 23, .low, .sleep⟩, 2, 0x41)].all
    (fun p => decide (sent p.1 p.2.1 p.2.2.1 = some p.2.2.2)) = true := by decide

/-- A row whose value is not in CS writes nothing, DRY sends 24 in A (40_pack.md R107), and mode AUTO takes C's fan AUTO row
(R116). -/
theorem test_field_tx_other :
    sent (.aModeCool .tx) ⟨.dry, 23, .low, .none⟩ 6 = some 0x40 ∧ sent (.aTemp .tx) ⟨.dry, 30, .low, .none⟩ 7 = some 0x49 ∧
    sent (.cFanLow .tx) ⟨.auto, 23, .low, .none⟩ 1 = some 0x40 ∧
    sent (.cFanAuto .tx) ⟨.auto, 23, .low, .none⟩ 1 = some 0x70 := by decide

/-! ## Field rows: what each decodes -/

/-- m, t, f, p after a row, from a frame, with the given prior fan. -/
def got (i : Instr) (frame : List Byte) : Option Climate :=
  after i (setDec ⟨.heat, 99, .high, .sleep⟩ (heard .A ⟨.off, 18, .medium, .none⟩ frame)) fun t => t.dec

/-- 43_unpack.md R181 to R184. -/
theorem test_field_a_rx : [(Instr.aModeOff .rx, [0, 0, 0, 0, 0, 0, 0x00], (⟨.off, 99, .high, .sleep⟩ : Climate)),
    (.aModeAuto .rx, [0, 0, 0, 0, 0, 0, 0x08], ⟨.auto, 99, .high, .sleep⟩),
    (.aModeDry .rx, [0, 0, 0, 0, 0, 0, 0x10], ⟨.dry, 99, .high, .sleep⟩),
    (.aModeCool .rx, [0, 0, 0, 0, 0, 0, 0x18], ⟨.cool, 99, .high, .sleep⟩),
    (.aModeFanOnly .rx, [0, 0, 0, 0, 0, 0, 0x20], ⟨.fanOnly, 99, .high, .sleep⟩),
    (.aTemp .rx, [0, 0, 0, 0, 0, 0, 0, 0x08], ⟨.heat, 23, .high, .sleep⟩),
    (.aFanAuto .rx, [0, 0, 0, 0, 0, 0, 0, 0, 0x01], ⟨.heat, 99, .auto, .sleep⟩),
    (.aFanLow .rx, [0, 0, 0, 0, 0, 0, 0, 0, 0x02], ⟨.heat, 99, .low, .sleep⟩),
    (.aFanMedium .rx, [0, 0, 0, 0, 0, 0, 0, 0, 0x03], ⟨.heat, 99, .medium, .sleep⟩),
    (.aFanHigh .rx, [0, 0, 0, 0, 0, 0, 0, 0, 0x04], ⟨.heat, 99, .high, .sleep⟩),
    (.aNightNone .rx, [0, 0, 0, 0, 0, 0x00], ⟨.heat, 99, .high, .none⟩),
    (.aNightSleep .rx, [0, 0, 0, 0, 0, 0x01], ⟨.heat, 99, .high, .sleep⟩)].all
    (fun p => decide (got p.1 p.2.1 = some p.2.2)) = true := by decide

/-- 43_unpack.md R185 to R188. -/
theorem test_field_b_rx : [(Instr.bModeOff .rx, [0, 0, 0, 0, 0, 0, 0x00], (⟨.off, 99, .high, .sleep⟩ : Climate)),
    (.bModeAuto .rx, [0, 0, 0, 0, 0, 0, 0x01], ⟨.auto, 99, .high, .sleep⟩),
    (.bModeCool .rx, [0, 0, 0, 0, 0, 0, 0x02], ⟨.cool, 99, .high, .sleep⟩),
    (.bModeDry .rx, [0, 0, 0, 0, 0, 0, 0x04], ⟨.dry, 99, .high, .sleep⟩),
    (.bModeFanOnly .rx, [0, 0, 0, 0, 0, 0, 0x08], ⟨.fanOnly, 99, .high, .sleep⟩),
    (.bModeHeat .rx, [0, 0, 0, 0, 0, 0, 0x10], ⟨.heat, 99, .high, .sleep⟩),
    (.bTemp .rx, [0, 0, 0, 0, 0, 0, 0, 0x80], ⟨.heat, 23, .high, .sleep⟩),
    (.bFanAuto .rx, [0, 0, 0, 0, 0, 0, 0, 0, 0x00], ⟨.heat, 99, .auto, .sleep⟩),
    (.bFanLow .rx, [0, 0, 0, 0, 0, 0, 0, 0, 0x02], ⟨.heat, 99, .low, .sleep⟩),
    (.bFanMedium .rx, [0, 0, 0, 0, 0, 0, 0, 0, 0x04], ⟨.heat, 99, .medium, .sleep⟩),
    (.bFanHigh .rx, [0, 0, 0, 0, 0, 0, 0, 0, 0x06], ⟨.heat, 99, .high, .sleep⟩),
    (.bNightNone .rx, [0, 0, 0, 0, 0, 0, 0, 0, 0x00], ⟨.heat, 99, .high, .none⟩),
    (.bNightSleep .rx, [0, 0, 0, 0, 0, 0, 0, 0, 0x01], ⟨.heat, 99, .high, .sleep⟩)].all
    (fun p => decide (got p.1 p.2.1 = some p.2.2)) = true := by decide

/-- 43_unpack.md R189 to R192. -/
theorem test_field_c_rx : [(Instr.cModeOff .rx, [0x00], (⟨.off, 99, .high, .sleep⟩ : Climate)),
    (.cModeCool .rx, [0x01], ⟨.cool, 99, .high, .sleep⟩), (.cModeDry .rx, [0x02], ⟨.dry, 99, .high, .sleep⟩),
    (.cModeFanOnly .rx, [0x03], ⟨.fanOnly, 99, .high, .sleep⟩), (.cModeHeat .rx, [0x04], ⟨.heat, 99, .high, .sleep⟩),
    (.cModeAuto .rx, [0x05], ⟨.auto, 99, .high, .sleep⟩), (.cTemp .rx, [0, 0x08], ⟨.heat, 23, .high, .sleep⟩),
    (.cFanLow .rx, [0, 0x00], ⟨.heat, 99, .low, .sleep⟩), (.cFanMedium .rx, [0, 0x10], ⟨.heat, 99, .medium, .sleep⟩),
    (.cFanHigh .rx, [0, 0x20], ⟨.heat, 99, .high, .sleep⟩), (.cFanAuto .rx, [0, 0x30], ⟨.heat, 99, .auto, .sleep⟩),
    (.cNightNone .rx, [0, 0, 0x00], ⟨.heat, 99, .high, .none⟩),
    (.cNightSleep .rx, [0, 0, 0x01], ⟨.heat, 99, .high, .sleep⟩)].all
    (fun p => decide (got p.1 p.2.1 = some p.2.2)) = true := by decide

/-- A fan byte that matches no code keeps the prior fan (43_unpack.md R199), a mode byte that matches none is OFF (R193). -/
theorem test_field_rx_default :
    got (.aFanLow .rx) [0, 0, 0, 0, 0, 0, 0, 0, 0x05] = some ⟨.heat, 99, .medium, .sleep⟩ ∧
    got (.bModeOff .rx) [0, 0, 0, 0, 0, 0, 0x06] = some ⟨.off, 99, .high, .sleep⟩ := by decide

/-! ## Symbol rows -/

/-- Revision C's timing (30_encoding.md R78). -/
theorem test_symbol_tx : [(Instr.symHeader .tx, [Item.mark 400, .space 400]), (.symBit1 .tx, [.mark 400, .space 1330]),
    (.symBit0 .tx, [.mark 400, .space 975]), (.symFinal .tx, [.mark 400]), (.symGap .tx, [])].all
    (fun p => decide (after p.1 (bench .C prior) (fun t => t.txseq) = some p.2)) = true := by decide

/-- The gap of revision A, in round 1 and not in round 2 (41_serialize.md R147). -/
theorem test_symbol_gap : after (.symGap .tx) (bench .A prior) (fun t => t.txseq) = some [.space 17500] ∧
    after (.symGap .tx) (setRd 2 (bench .A prior)) (fun t => t.txseq) = some [] := by decide

/-- V48's pair (390, 1100) is in both windows and reads 1; (390, 700) is in neither (V43). -/
theorem test_symbol_rx :
    after (.symBit1 .rx) (given .B [(390, 1100)]) (fun t => (t.rxf, t.k, t.rxc)) = some ([(0, 0x01)], 1, 1) ∧
    after (.symBit0 .rx) (given .B [(390, 1100)]) (fun t => (t.rxf, t.k, t.rxc)) = some ([], 0, 0) ∧
    after (.symBit0 .rx) (given .B [(390, 970)]) (fun t => (t.rxf, t.k, t.rxc)) = some ([], 1, 1) ∧
    after (.symBit0 .rx) (setK 37 (given .B [(390, 700)])) (fun t => (t.res, t.rxc)) =
      some (⟨false, .bitMismatch, 37⟩, 0) := by decide

/-- 42_deserialize.md R163's example: (390, 390) passes and (390, 800) is rejected; R168 for the other two rows. -/
theorem test_symbol_rx_header :
    after (.symHeader .rx) (given .B [(390, 390)]) (fun t => t.rxc) = some 1 ∧
    after (.symHeader .rx) (given .B [(390, 800)]) (fun t => (t.res, t.rxc)) = some (⟨false, .headerMismatch, 0⟩, 0) ∧
    after (.symFinal .rx) (given .B [(390, 390)]) (fun t => t.rxc) = some 0 ∧
    after (.symGap .rx) (given .B [(390, 390)]) (fun t => t.rxc) = some 0 := by decide

/-- 42_deserialize.md R161: the edges of the windows of V40's table for B. -/
theorem test_match : [(1340, 1005, true), (1340, 1004, false), (1340, 1675, true), (1340, 1676, false), (970, 1212, true),
    (970, 1213, false), (390, 293, true), (390, 292, false)].all
    (fun p => matchDuration .reference p.1 p.2.1 == p.2.2) = true := by decide

/-! ## Reason rows -/

/-- A reason row records its result where the burst gives it (60_exceptions.md R241, R242; vector V49), with RXC of
42_deserialize.md R169. -/
theorem test_reason : after .reasonNone (given .B (burstB 71)) (fun t => (t.res, t.rxc)) = some (⟨true, .none, 71⟩, 72) ∧
    after .reasonHeaderMismatch (given .B []) (fun t => t.res) = some ⟨false, .headerMismatch, 0⟩ ∧
    after .reasonBitMismatch (given .B (burstB 70)) (fun t => (t.res, t.rxc)) = some (⟨false, .bitMismatch, 70⟩, 71) := by
  decide

/-- No row rejects a burst without the test that fails (R241, R242: "and by nothing else"). -/
theorem test_reason_not_raised : after .reasonHeaderMismatch (given .B [(390, 390)]) (fun t => t.res) = some State.reset.res ∧
    after .reasonBitMismatch (given .B (burstB 71)) (fun t => t.res) = some State.reset.res ∧
    after .reasonNone (given .B []) (fun t => t.res) = some State.reset.res := by decide

/-! ## Steps, and the buffers -/

theorem test_step_fetch_word : stepped (State.reset.withFetchWord 8 0) (fun t => (t.inbox, frameBytes t.txf)) =
    some ([], [0, 0, 0, 0, 0, 0, 0, 0x03, 0x01]) := by decide

theorem test_reset_buffers : Memory.wf State.reset.txf = true ∧ Memory.wf State.reset.rxf = true := by decide

/-- Writing 0 takes the address off the list, and a write between two addresses stands between them. -/
theorem test_write_byte : writeByte [(2, 5), (7, 1)] 7 0 = [(2, 5)] ∧
    writeByte [(2, 5), (7, 1)] 3 9 = [(2, 5), (3, 9), (7, 1)] := by decide

/-- 20_memory.md R45 on 41_serialize.md R144's two examples. -/
theorem test_bit_order :
    (List.range 8).map (fun j => bitAt .lsb [(6, 0x18)] (48 + j)) = [false, false, false, true, true, false, false, false] ∧
    (List.range 8).map (fun j => bitAt .msb [(0, 0x05)] j) =
      [false, false, false, false, false, true, false, true] := by decide

/-! ## Witnesses: for each statement with hypotheses, a state and operands that meet them all -/

/-- The host's next action is `a`. -/
def asked (a : HostAct) : State := setInbox [a] (bench .B prior)

theorem witness_idle : (bench .A prior).inbox = [] := rfl

theorem witness_host_writes : (asked (.writeCs prior)).inbox = .writeCs prior :: [] := rfl

theorem witness_host_bursts : (asked (.burst [(390, 390)])).inbox = .burst [(390, 390)] :: [] := rfl

/-- StepRunsTheDecodedInstruction: a word that decodes and one that does not. -/
theorem witness_command : (asked (.command [0x02])).inbox = .command [0x02] :: [] ∧
    decode [0x02] = .ok (.transmit, []) ∧ (asked (.command [0xFF])).inbox = .command [0xFF] :: [] ∧
    decode [0xFF] = .error (.unknownFormat 0xFF) := ⟨rfl, rfl, rfl, rfl⟩

theorem witness_decode : Instr.WellFormed (.frameA .rx 1 0xFF 15 0x7F) ∧
    decode [0x14, 2, 0xAA] = .ok (.symBit0 .rx, [0xAA]) := ⟨by decide, rfl⟩

theorem witness_layoutA : layoutA.WF .A :=
  ⟨by decide, by decide, by decide, by decide, by decide, by unfold Layout.WfSkipped Layout.Sent; decide,
    by simp only [Layout.WfSettled]; decide⟩

theorem witness_layoutB : layoutB.WF .B :=
  ⟨by decide, by decide, by decide, by decide, by decide, by unfold Layout.WfSkipped Layout.Sent; decide,
    by simp only [Layout.WfSettled]; decide⟩

theorem witness_layoutC : layoutC.WF .C :=
  ⟨by decide, by decide, by decide, by decide, by decide, by unfold Layout.WfSkipped Layout.Sent; decide,
    by simp only [Layout.WfSettled]; decide⟩

/-- PackPlacesEveryFieldUnderAnyLayout, in a layout that is no reference layout: the night-mode flag of C at another place. -/
def movedC : Layout := { layoutC with nightByte := 8, nightMask := 0x80, tempByte := 3, tempShift := 4 }

theorem witness_moved_layout : movedC.WF .C :=
  ⟨by decide, by decide, by decide, by decide, by decide, by unfold Layout.WfSkipped Layout.Sent; decide,
    by simp only [Layout.WfSettled]; decide⟩

/-- The block of revision C built with `movedC`. -/
def movedBench : State := { bench .C prior with build := { referenceBuild .C with layout := ⟨layoutA, layoutB, movedC⟩ } }

theorem witness_off_c : (setCs ⟨.off, 25, .high, .sleep⟩ movedBench).build.rev = .C ∧
    (setCs ⟨.off, 25, .high, .sleep⟩ movedBench).cs.mode = .off := ⟨rfl, rfl⟩

theorem witness_well_formed_states : (layout (bench .B prior)).WF (bench .B prior).build.rev ∧
    (layout movedBench).WF movedBench.build.rev := ⟨witness_layoutB, witness_moved_layout⟩

/-- The statements about a revision with its reference layout. -/
theorem witness_revisions : (bench .A prior).build.rev = .A ∧ (bench .A prior).build.layout.a = layoutA ∧
    (bench .B prior).build.rev = .B ∧ (bench .B prior).build.layout.b = layoutB ∧
    (bench .C prior).build.rev = .C ∧ (bench .C prior).build.layout.c = layoutC := ⟨rfl, rfl, rfl, rfl, rfl, rfl⟩

/-- PackDependsOnRevAndCsAlone: two states that differ in TXF. -/
theorem witness_same_cs : (bench .A prior).build = (setTxf [(0, 1)] (bench .A prior)).build ∧
    (bench .A prior).cs = (setTxf [(0, 1)] (bench .A prior)).cs ∧
    bench .A prior ≠ setTxf [(0, 1)] (bench .A prior) := ⟨rfl, rfl, by decide⟩

/-- TemperatureIsClampedOnACopy: each clause at its edge, the last in a layout that is no reference layout and for DRY in A. -/
theorem witness_clamp_low : (bench .A ⟨.dry, 17, .low, .none⟩).cs.temp < 18 ∧ (18 : Int) = 18 ∧
    (layout (bench .A ⟨.dry, 17, .low, .none⟩)).WF .A := ⟨by decide, rfl, witness_layoutA⟩

theorem witness_clamp_high : 30 < (bench .B ⟨.cool, 31, .low, .none⟩).cs.temp ∧ (30 : Int) = 30 ∧
    (layout (bench .B ⟨.cool, 31, .low, .none⟩)).WF .B := ⟨by decide, rfl, witness_layoutB⟩

theorem witness_clamp_inside : 18 ≤ (setCs ⟨.off, 18, .low, .none⟩ movedBench).cs.temp ∧
    (setCs ⟨.off, 30, .low, .none⟩ movedBench).cs.temp ≤ 30 ∧
    (layout (setCs ⟨.off, 18, .low, .none⟩ movedBench)).WF .C := ⟨by decide, by decide, witness_moved_layout⟩

theorem witness_temp_range : (18 : Int) ≤ 18 ∧ (18 : Int) ≤ 30 ∧ (18 : Int) ≤ 30 ∧ (30 : Int) ≤ 30 := by decide

/-- The FIELD rows on the transmit side: a row that is taken and one that is not. -/
theorem witness_rows_sent : (bench .A prior).cs.mode = .cool ∧ (bench .A prior).cs.mode ≠ .dry ∧
    (bench .C ⟨.auto, 22, .low, .none⟩).cs.mode = .auto := by decide

/-- The FIELD rows on the receive side: a row that is taken and one that is not, and a fan byte without a code. -/
theorem witness_rows_received : Claims.modeFromA (readByte (heard .A prior [0, 0, 0, 0, 0, 0, 0x18]).rxf 6) = .cool ∧
    Claims.modeFromA (readByte (heard .A prior [0, 0, 0, 0, 0, 0, 0x18]).rxf 6) ≠ .dry ∧
    Claims.fanFromA (readByte (heard .A prior []).rxf 8) .high = .high := by decide

/-- SkippedBitIsNotSent: two frames that differ in the never-sent bit (V33). -/
theorem witness_skipped : (∀ k, k < 71 → bitAt (layout (bench .A prior)).order [(8, 0x83)] k =
    bitAt (layout (bench .A prior)).order (setTxf [(8, 0x03)] (bench .A prior)).txf k) := by decide

/-- BitOfAPositionByOrder: the last slot. -/
theorem witness_slot : 7 < 8 := by decide

/-- SymbolRowsAppendTheirItems: the three clauses about SYM.GAP. -/
theorem witness_gap : (bench .A prior).rd = 1 ∧ (layout (bench .A prior)).rounds = .two ∧ (bench .B prior).rd = 1 ∧
    (layout (bench .B prior)).rounds = .one ∧ (setRd 2 (bench .A prior)).rd = 2 := ⟨rfl, rfl, rfl, rfl, rfl⟩

theorem given_rxs (r : Rev) (l : List (Nat × Nat)) : (given r l).rxs = l := rfl

theorem given_rxc (r : Rev) (l : List (Nat × Nat)) : (given r l).rxc = 0 := rfl

theorem witness_header : HeaderFirst (given .B [(390, 390)]) := ⟨(390, 390), rfl, by decide, by decide⟩

theorem witness_no_header : ¬HeaderFirst (given .B []) := fun ⟨_, h, _⟩ => by simp [given_rxs] at h

/-- BitRowsTakeTheirArmOfRxBit: each clause, at the last position and after it. -/
theorem witness_bit_one : (setK 70 (given .B [(390, 1100)])).k < 71 ∧
    (setK 70 (given .B [(390, 1100)])).rxs[(setK 70 (given .B [(390, 1100)])).rxc]? = some (390, 1100) ∧
    readPair (timing (given .B [])) (given .B []).build.tol (390, 1100) = some true := by decide

theorem witness_bit_zero : (given .B [(390, 970)]).k < 71 ∧
    (given .B [(390, 970)]).rxs[(given .B [(390, 970)]).rxc]? = some (390, 970) ∧
    readPair (timing (given .B [])) (given .B []).build.tol (390, 970) = some false := by decide

theorem witness_bit_neither : (given .B []).k < 71 ∧ ∀ p, (given .B []).rxs[(given .B []).rxc]? = some p →
    readPair (timing (given .B [])) (given .B []).build.tol p = none :=
  ⟨by decide, fun _ h => by simp [given_rxs, given_rxc] at h⟩

theorem witness_bit_after : 71 ≤ (setK 71 (given .B [])).k := by decide

/-- The bits of `burstB`. -/
def evenBits (k : Nat) : Bool := decide (k % 2 = 0)

theorem burstB_reads {n k : Nat} (h : k < n) : PositionReads (given .B (burstB n)) k (evenBits k) := by
  refine ⟨(390, if k % 2 = 0 then 1340 else 970), ?_, ?_⟩
  · simp [given_rxs, burstB, h]
  · show readPair timingB .reference _ = _
    by_cases hk : k % 2 = 0 <;> simp only [evenBits, hk, if_true, if_false, decide_true, decide_false] <;> decide

/-- DeserializeReassemblesTheBits, ReceiveUnpacksAndPublishesOnSuccess: header and 71 data positions. -/
theorem witness_accepted : HeaderFirst (given .B (burstB 71)) ∧
    ∀ k, k < 71 → PositionReads (given .B (burstB 71)) k (evenBits k) :=
  ⟨⟨(390, 390), rfl, by decide, by decide⟩, fun _ h => burstB_reads h⟩

/-- DeserializeRejectsAtTheFirstBadBit, ReceiveStopsAtARejection: the burst ends at position 70, the last. -/
theorem witness_rejected_last : 70 < 71 ∧ HeaderFirst (given .B (burstB 70)) ∧
    (∀ k, k < 70 → PositionReads (given .B (burstB 70)) k (evenBits k)) ∧ PositionFails (given .B (burstB 70)) 70 :=
  ⟨by decide, ⟨(390, 390), rfl, by decide, by decide⟩, fun _ h => burstB_reads h,
    fun p h => by simp [given_rxs, burstB] at h⟩

/-- The same at position 0. -/
theorem witness_rejected_first : 0 < 71 ∧ HeaderFirst (given .B (burstB 0)) ∧
    (∀ k, k < 0 → PositionReads (given .B (burstB 0)) k (evenBits k)) ∧ PositionFails (given .B (burstB 0)) 0 :=
  ⟨by decide, ⟨(390, 390), rfl, by decide, by decide⟩, fun _ h => absurd h (Nat.not_lt_zero _),
    fun p h => by simp [given_rxs, burstB] at h⟩

/-- DeserializeIsBounded: two states with one burst and different cursors. -/
theorem witness_same_burst : (setRxc 72 (given .B (burstB 71))).build = (given .B (burstB 71)).build ∧
    (setRxc 72 (given .B (burstB 71))).rxs = (given .B (burstB 71)).rxs ∧
    (setRxc 72 (given .B (burstB 71))).rxc ≠ (given .B (burstB 71)).rxc := ⟨rfl, rfl, by decide⟩

/-- PairsAfterTheLastBitAreIgnored. -/
theorem witness_deserialized : ∃ t, exec .deserialize (given .B (burstB 71)) = .next t ∧ t.res.ok = true :=
  ⟨_, rfl, by decide +kernel⟩

/-- ARejectedBurstIsForgotten. -/
theorem witness_received_nothing : ∃ t, exec .receive (given .B []) = .next t ∧ t.res.ok = false := ⟨_, rfl, by decide⟩

/-- DeserializeInvertsSerialize. -/
theorem witness_timing : TimingUsable timingB .reference :=
  ⟨by decide, by decide, by decide, fun e _ => by simp [matchDuration]⟩

theorem witness_timing_state : TimingUsable (timing (bench .B prior)) (bench .B prior).build.tol := witness_timing

/-- ReceiveOfTransmitGivesTheStateBack, in the two revisions that have an exception, and in B with HEAT. -/
theorem witness_round_trip_a : BuildUsable (bench .A ⟨.dry, 30, .low, .sleep⟩).build ∧
    Supported (bench .A ⟨.dry, 30, .low, .sleep⟩).build.rev (bench .A ⟨.dry, 30, .low, .sleep⟩).cs.mode :=
  ⟨⟨witness_layoutA, ⟨by decide, by decide, by decide, fun e _ => by simp [bench, referenceBuild, matchDuration]⟩⟩,
    by decide⟩

theorem witness_round_trip_b : BuildUsable (bench .B ⟨.heat, 30, .high, .sleep⟩).build ∧
    Supported (bench .B ⟨.heat, 30, .high, .sleep⟩).build.rev (bench .B ⟨.heat, 30, .high, .sleep⟩).cs.mode :=
  ⟨⟨witness_layoutB, witness_timing⟩, by decide⟩

theorem witness_round_trip_c : BuildUsable (bench .C ⟨.auto, 31, .low, .sleep⟩).build ∧
    Supported (bench .C ⟨.auto, 31, .low, .sleep⟩).build.rev (bench .C ⟨.auto, 31, .low, .sleep⟩).cs.mode :=
  ⟨⟨witness_layoutC, ⟨by decide, by decide, by decide, fun e _ => by simp [bench, referenceBuild, matchDuration]⟩⟩,
    by decide⟩

/-- BitsOutsideTheRegionsAreNotRead: two frames of revision A that differ outside the regions. -/
theorem witness_regions : (∀ p ∈ (layout (heard .A prior [])).regions,
    readByte [(0, 0x12), (5, 0xFE), (7, 0xF0)] p.1.val &&& p.2 = readByte (heard .A prior []).rxf p.1.val &&& p.2) := by
  decide +kernel

/-- ModeIsLookedUpByItsCode: a byte without a code, and one with a code. -/
theorem witness_mode_unmatched : ∀ m, m ≠ .off → modeCode .B (layout (heard .B prior [])) m ≠ some
    (readByte (heard .B prior [0, 0, 0, 0, 0, 0, 0x06]).rxf 6 &&& 0x1F) := by
  intro m; cases m <;> decide

theorem witness_mode_matched : Mode.heat ≠ .off ∧ (layout (heard .B prior [])).WfModes ∧
    modeCode .B (layout (heard .B prior [])) .heat = some
      (readByte (heard .B prior [0, 0, 0, 0, 0, 0, 0x30]).rxf 6 &&& 0x1F) := by decide

/-- UnmatchedFanKeepsThePrior: a byte without a code, and one with a code. -/
theorem witness_fan_unmatched : ∀ f, fanCode (layout (heard .A prior [])) f ≠
    readByte (heard .A prior []).rxf (layout (heard .A prior [])).fanByte &&& (layout (heard .A prior [])).fanMask := by
  intro f; cases f <;> decide

theorem witness_fan_matched : (layout (heard .B prior [])).WfFans ∧ fanCode (layout (heard .B prior [])) .auto =
    readByte (heard .B prior []).rxf (layout (heard .B prior [])).fanByte &&& (layout (heard .B prior [])).fanMask := by
  decide

/-- ReasonRowsRecordTheirResult, with witness_accepted, witness_no_header, witness_rejected_last and witness_rejected_first:
a rejection that RES records, and an instruction that does not write RES. -/
theorem witness_rejection_recorded : (∃ t, exec .deserialize (given .B []) = .next t ∧ t.res ≠ (given .B []).res ∧
    t.res.ok = false) ∧ Instr.unpack ∉ Claims.resWriters := ⟨⟨_, rfl, by decide, by decide⟩, by decide⟩

/-- EveryStepKeepsTheInvariant and the statements about every step: a state that meets the invariant and takes a step that
appends to EMIT. -/
theorem witness_step : (asked (.command [0x02])).Inv ∧ ∃ t, step (asked (.command [0x02])) = .next t :=
  ⟨⟨by decide, by decide, by decide, by decide, by simp [Result.Legal, asked, bench, State.reset], by decide,
    by simp [asked, bench, State.reset], by simp [asked, bench, State.reset], by decide⟩, _, rfl⟩

/-- The statements about every instruction that answers a next state: one of the transmit side, one of the receive side. -/
theorem witness_exec_tx : (∃ t, exec .serialize (bench .C prior) = .next t) ∧ Instr.serialize ≠ .unpack ∧
    Instr.serialize ≠ .receive := ⟨⟨_, rfl⟩, by decide⟩

theorem witness_exec_rx : (∃ t, exec .deserialize (given .C []) = .next t) ∧ Instr.deserialize ≠ .serialize ∧
    Instr.deserialize ≠ .transmit ∧ Instr.deserialize ≠ .receive ∧ Instr.deserialize ≠ .unpack := ⟨⟨_, rfl⟩, by decide⟩

theorem witness_assigned : Instr.pack ≠ .unassigned011 ∧ Instr.pack ≠ .unassigned111 := by decide

end Sys2Proof.Tests
end

/-! ## PACK under any well-formed layout

A frame is seen as the overlay of its four placed fields, each a region (a byte and a mask) with the bits that PACK ORs in
there. What a region holds, and which bits stay 0, then follow for any list of fields that fit their regions, by induction on
the list; WF says that the fields of PACK are such a list. -/

namespace Sys2Proof.Proofs

open Sys2Proof.Machine Sys2Proof.Claims

/-- A field at its place in the frame: its region, as in 30_encoding.md R79 (f), and the bits it has there. -/
structure PlacedField where
  region : Fin 9 × Byte
  bits   : Byte

/-- No bit of the field lies outside its mask. -/
abbrev PlacedField.Fits (f : PlacedField) : Prop := f.bits &&& f.region.2 = f.bits

/-- Byte `j` of the frame that is zeroed and gets each field of the list ORed in (30_encoding.md R61). -/
def overlay : List PlacedField → Nat → Byte
  | [], _ => 0
  | f :: fs, j => (if j = f.region.1.val then f.bits else 0) ||| overlay fs j

/-- The four fields of the frame that PACK makes of `c`, in the order of `Layout.regions`. -/
def frameFields (r : Rev) (L : Layout) (c : Climate) : List PlacedField :=
  [⟨(L.modeByte, L.modeMask), modeBits r L c.mode⟩, ⟨(L.tempByte, L.tempMask), tempBits L (sentTemp r c)⟩,
    ⟨(L.fanByte, L.fanMask), fanCode L (sentFan r c)⟩, ⟨(L.nightByte, L.nightMask), presetBits L c.preset⟩]

/-- Each region of a layout with all its bits set. -/
def fullFields (L : Layout) : List PlacedField := L.regions.map fun p => ⟨p, p.2⟩

/-! ### Overlays -/

theorem overlay_and_eq_zero_iff {fs : List PlacedField} {j : Nat} {m : Byte} :
    overlay fs j &&& m = 0 ↔ ∀ f ∈ fs, j = f.region.1.val → f.bits &&& m = 0 := by
  induction fs with
  | nil => simp [overlay]
  | cons f fs ih =>
    rw [overlay, BitVec.and_or_distrib_right, List.forall_mem_cons, ← ih]
    refine BitVec.or_eq_zero_iff.trans (and_congr_left fun _ => ?_)
    split <;> simp [*]

theorem overlay_eq_zero {fs : List PlacedField} {j : Nat} (h : ∀ f ∈ fs, j = f.region.1.val → f.bits = 0) :
    overlay fs j = 0 := by
  rw [← BitVec.and_self (x := overlay fs j)]
  exact overlay_and_eq_zero_iff.2 fun f hf hj => by rw [h f hf hj]; exact BitVec.zero_and

theorem bits_and_not_overlay {fs : List PlacedField} {f : PlacedField} (hf : f ∈ fs) :
    f.bits &&& ~~~overlay fs f.region.1 = 0 :=
  overlay_and_eq_zero_iff.1 (BitVec.and_not_self _) f hf rfl

/-- A field that fits its region has no bit in another region that is apart from it. -/
theorem PlacedField.Fits.and_eq_zero {f : PlacedField} (fit : f.Fits) {p : Fin 9 × Byte}
    (apart : Layout.Apart p f.region) (same : p.1 = f.region.1) : f.bits &&& p.2 = 0 := by
  have disjoint : p.2 &&& f.region.2 = 0 := apart.resolve_left (not_not_intro same)
  calc f.bits &&& p.2 = f.bits &&& (p.2 &&& f.region.2) := by
        rw [BitVec.and_comm p.2, ← BitVec.and_assoc, fit]
    _ = 0 := by rw [disjoint]; exact BitVec.and_zero

/-- Where the regions are apart and every field fits its own, each region holds exactly its field's bits. -/
theorem overlay_and_mask {fs : List PlacedField} (apart : fs.Pairwise fun f g => Layout.Apart f.region g.region)
    (fit : ∀ f ∈ fs, f.Fits) {f : PlacedField} (hf : f ∈ fs) : overlay fs f.region.1 &&& f.region.2 = f.bits := by
  induction fs with
  | nil => cases hf
  | cons g fs ih =>
    obtain ⟨apartHead, apartTail⟩ := List.pairwise_cons.1 apart
    obtain ⟨fitHead, fitTail⟩ := List.forall_mem_cons.1 fit
    rw [overlay, BitVec.and_or_distrib_right]
    rcases List.mem_cons.1 hf with rfl | hf
    · have rest : overlay fs f.region.1 &&& f.region.2 = 0 :=
        overlay_and_eq_zero_iff.2 fun g hg hj => (fitTail g hg).and_eq_zero (apartHead g hg) (Fin.ext hj)
      rw [if_pos rfl, rest, fitHead]
      exact BitVec.or_zero
    · have head : (if f.region.1.val = g.region.1.val then g.bits else 0) &&& f.region.2 = 0 := by
        split
        · have apart : Layout.Apart f.region g.region := by
            simpa only [Layout.Apart, ne_comm, BitVec.and_comm] using apartHead f hf
          exact fitHead.and_eq_zero apart (Fin.ext ‹_›)
        · exact BitVec.zero_and
      rw [head, ih apartTail fitTail hf]
      exact BitVec.zero_or

/-! ### The model's frame and its region mask are overlays -/

theorem exec_pack (s : State) : exec .pack s = .next (pack s) := rfl

theorem readByte_pack (s : State) (j : Nat) :
    readByte (pack s).txf j = overlay (frameFields s.build.rev (layout s) s.cs) j := by
  rw [pack_read]
  simp [overlay, frameFields, BitVec.or_assoc]

theorem regionMask_eq_overlay (L : Layout) (j : Nat) : regionMask L j = overlay (fullFields L) j := by
  simp [regionMask, overlay, fullFields, Layout.regions, BitVec.or_assoc, eq_comm]

/-- The never-sent bit is position 71 of the frame (20_memory.md R46). -/
theorem bitAt_71_of_skippedMask {L : Layout} {m : Memory} (h : readByte m 8 &&& L.skippedMask = 0) :
    bitAt L.order m 71 = false := by
  unfold Layout.skippedMask at h
  unfold bitAt bitIdx
  cases hL : L.order with
  | lsb => simpa [hL] using congrArg (BitVec.getLsbD · 7) h
  | msb => simpa [hL] using congrArg (BitVec.getLsbD · 0) h

/-! ### The bits of each field -/

theorem modeBits_eq_code (r : Rev) (L : Layout) (m : Mode) : modeBits r L m = (modeCode r L m).getD 0 := by
  cases m <;> rfl

theorem modeBits_mem (r : Rev) (L : Layout) (m : Mode) : modeBits r L m = 0 ∨ modeBits r L m ∈ L.modeCodes.list := by
  cases m with
  | off => exact .inl rfl
  | heat =>
    cases r with
    | A => exact .inl rfl
    | B | C => cases hc : L.modeCodes.heat <;> simp [modeBits, modeCode, ModeCodes.list, hc]
  | cool | dry | fanOnly | auto => simp [modeBits, modeCode, ModeCodes.list]

theorem fanCode_mem (L : Layout) (f : Fan) : fanCode L f ∈ L.fanCodes.list := by
  cases f <;> simp [fanCode, FanCodes.list]

theorem presetBits_eq (L : Layout) (p : Preset) : presetBits L p = if p = .sleep then L.nightMask else 0 := by
  cases p <;> rfl

theorem presetBits_fits (L : Layout) (p : Preset) : presetBits L p &&& L.nightMask = presetBits L p := by
  cases p with
  | none => exact BitVec.zero_and
  | sleep => exact BitVec.and_self

theorem sentTemp_mem (r : Rev) (c : Climate) : 18 ≤ sentTemp r c ∧ sentTemp r c ≤ 30 := by
  cases r with
  | A =>
    simp only [sentTemp]
    split
    · simp [tempDryA]
    · exact clampTemp_mem _
  | B | C => exact clampTemp_mem _

theorem tempField_eq_ofInt {t : Int} (h : 15 ≤ t) : tempField t = BitVec.ofInt 8 (t - 15) := by
  unfold tempField tempOff
  rw [← BitVec.ofInt_natCast, Int.toNat_of_nonneg (by omega)]

theorem tempField_fits {t : Int} (h : t ≤ 30) : tempField t &&& 0x0F#8 = tempField t := by
  have low : ∀ n < 16, BitVec.ofNat 8 n &&& 0x0F#8 = BitVec.ofNat 8 n := by decide
  exact low _ (by unfold tempOff; omega)

theorem tempBits_fits (L : Layout) {t : Int} (h : t ≤ 30) : tempBits L t &&& L.tempMask = tempBits L t := by
  unfold tempBits Layout.tempMask
  rw [← BitVec.shiftLeft_and_distrib, tempField_fits h]

/-! ### The fields of a well-formed layout -/

theorem forall_mem_frameFields {r : Rev} {L : Layout} {c : Climate} {P : PlacedField → Prop} :
    (∀ f ∈ frameFields r L c, P f) ↔
      P ⟨(L.modeByte, L.modeMask), modeBits r L c.mode⟩ ∧ P ⟨(L.tempByte, L.tempMask), tempBits L (sentTemp r c)⟩ ∧
      P ⟨(L.fanByte, L.fanMask), fanCode L (sentFan r c)⟩ ∧ P ⟨(L.nightByte, L.nightMask), presetBits L c.preset⟩ := by
  simp [frameFields]

section
variable {r : Rev} {L : Layout} (wf : L.WF r) (c : Climate)
include wf

theorem frameFields_apart : (frameFields r L c).Pairwise fun f g => Layout.Apart f.region g.region :=
  (List.pairwise_map (f := PlacedField.region) (R := Layout.Apart)).1 wf.regions

theorem frameFields_fit : ∀ f ∈ frameFields r L c, f.Fits := by
  have mode : modeBits r L c.mode &&& L.modeMask = modeBits r L c.mode := by
    rcases modeBits_mem r L c.mode with h0 | hc
    · rw [h0]; exact BitVec.zero_and
    · exact (wf.modes.2 _ hc).2
  exact forall_mem_frameFields.2
    ⟨mode, tempBits_fits L (sentTemp_mem r c).2, wf.fans.2 _ (fanCode_mem L _), presetBits_fits L _⟩

/-- No field sets the never-sent bit of byte 8 (30_encoding.md R79 (g)). -/
theorem frameFields_sent : ∀ f ∈ frameFields r L c, L.Sent f.region.1 f.bits := by
  obtain ⟨modes, fans, temp, night⟩ := wf.skipped
  have zero_sent (b : Fin 9) : L.Sent b 0 := .inr BitVec.zero_and
  have mode : L.Sent L.modeByte (modeBits r L c.mode) := by
    rcases modeBits_mem r L c.mode with h0 | hc
    · rw [h0]; exact zero_sent _
    · exact modes _ hc
  have temp : L.Sent L.tempByte (tempBits L (sentTemp r c)) := temp.imp_right fun h => by
    rw [← tempBits_fits L (sentTemp_mem r c).2, BitVec.and_assoc, h]; exact BitVec.and_zero
  have night : L.Sent L.nightByte (presetBits L c.preset) := by
    cases c.preset with
    | none => exact zero_sent _
    | sleep => exact night
  exact forall_mem_frameFields.2 ⟨mode, temp, fans _ (fanCode_mem L _), night⟩

theorem frame_and_mask : ∀ f ∈ frameFields r L c, overlay (frameFields r L c) f.region.1 &&& f.region.2 = f.bits :=
  fun _ hf => overlay_and_mask (frameFields_apart wf c) (frameFields_fit wf c) hf

/-- Every bit of the frame outside the four regions is 0 (30_encoding.md R83). -/
theorem frame_outside_regions (j : Nat) : overlay (frameFields r L c) j &&& ~~~regionMask L j = 0 := by
  rw [regionMask_eq_overlay]
  refine overlay_and_eq_zero_iff.2 fun f hf hj => ?_
  have hregion : f.region ∈ L.regions := List.mem_map_of_mem (f := PlacedField.region) hf
  have hfull : (⟨f.region, f.region.2⟩ : PlacedField) ∈ fullFields L := List.mem_map_of_mem hregion
  rw [← frameFields_fit wf c f hf, BitVec.and_assoc, hj, bits_and_not_overlay hfull]
  exact BitVec.and_zero

theorem frame_skipped : overlay (frameFields r L c) 8 &&& L.skippedMask = 0 :=
  overlay_and_eq_zero_iff.2 fun f hf h8 =>
    (frameFields_sent wf c f hf).resolve_left (not_not_intro (Fin.ext h8.symm))

end

/-- In revision C byte 0 holds the mode field alone, so OFF leaves it 0 (00_scope.md R9). -/
theorem frame_off_c {L : Layout} (wf : L.WF .C) {c : Climate} (off : c.mode = .off) :
    overlay (frameFields .C L c) 0 = 0 := by
  obtain ⟨-, temp, fan, night, -⟩ := wf.settled
  have elsewhere {b : Fin 9} {v : Byte} (hb : b ≠ 0) : 0 = b.val → v = 0 := fun h => absurd (Fin.ext h.symm) hb
  exact overlay_eq_zero (forall_mem_frameFields.2
    ⟨fun _ => by rw [off, modeBits], elsewhere temp, elsewhere fan, elsewhere night⟩)

/-- Settles O13: WF makes the four fields of PACK fit regions that are apart, and the rest holds of any such overlay. -/
theorem packPlacesEveryFieldUnderAnyLayout : Obligations.PackPlacesEveryFieldUnderAnyLayout := by
  intro s wf
  obtain ⟨mode, temp, fan, night⟩ := forall_mem_frameFields.1 (frame_and_mask wf s.cs)
  have tempLow := (sentTemp_mem s.build.rev s.cs).1
  refine ⟨(pack s).txf, by rw [exec_pack, ← pack_eq], pack_wf s, ?_⟩
  simp only [readByte_pack]
  refine ⟨?mode, ?temp, fan, ?night, frame_outside_regions wf s.cs, ?skipped, fun hr off => ?off⟩
  case mode => rw [← modeBits_eq_code]; exact mode
  case temp => rw [← tempField_eq_ofInt (by omega)]; exact temp
  case night => rw [← presetBits_eq]; exact night
  case skipped => exact bitAt_71_of_skippedMask (by rw [readByte_pack]; exact frame_skipped wf s.cs)
  case off =>
    rw [hr] at wf ⊢
    exact frame_off_c wf off

end Sys2Proof.Proofs

/-! ## What each instruction and each step can do

Every row but the four that emit, write CS or publish changes the state in one of five ways. `Effect` lists these ways together
with the exact next states of the four; `exec_effect` is the one place that walks through the table's rows. What no instruction
changes, and what only some do, follows by cases on `Effect`. -/

namespace Sys2Proof.Proofs

open Sys2Proof.Machine

/-! ### Frames of the operations -/

section
variable (s : State)

@[simp] theorem pack_build : (pack s).build = s.build := by rw [pack_eq, setTxf_build]
@[simp] theorem pack_cs : (pack s).cs = s.cs := by rw [pack_eq, setTxf_cs]
@[simp] theorem pack_emit : (pack s).emit = s.emit := by rw [pack_eq, setTxf_emit]
@[simp] theorem pack_pub : (pack s).pub = s.pub := by rw [pack_eq, setTxf_pub]

@[simp] theorem serialize_build : (serialize s).build = s.build := by simp [serialize_eq]
@[simp] theorem serialize_cs : (serialize s).cs = s.cs := by simp [serialize_eq]
@[simp] theorem serialize_pub : (serialize s).pub = s.pub := by simp [serialize_eq]

theorem serialize_emit :
    (serialize s).emit = s.emit ++ [⟨38000, itemsOf (timing s) (layout s) s.txf⟩] := by simp [serialize_eq]

@[simp] theorem unpack_build : (unpack s).build = s.build := by simp [unpack_eq]
@[simp] theorem unpack_emit : (unpack s).emit = s.emit := by simp [unpack_eq]
@[simp] theorem unpack_pub : (unpack s).pub = s.pub := by simp [unpack_eq]

end

/-! ### The effect of an instruction -/

/-- The state after a scan of the burst, or a part of one, that left this frame, position, cursor and result. -/
def scanned (rxf : Memory) (k rxc : Nat) (res : Result) (s : State) : State :=
  setRes res (setRxc rxc (setK k (setRxf rxf s)))

/-- The ways an instruction changes the state. The first five are open to any row; the other four belong to the one operation
that emits, writes CS or publishes in that way. -/
inductive Effect (s : State) (i : Instr) : State → Prop
  | txf (m : Memory) : Effect s i (setTxf m s)
  | rxf (m : Memory) : Effect s i (setRxf m s)
  | dec (c : Climate) : Effect s i (setDec c s)
  | symbol (l : List Item) : Effect s i (setTxseq (s.txseq ++ l) s)
  | scan (rxf : Memory) (k rxc : Nat) (res : Result) : Effect s i (scanned rxf k rxc res s)
  | serialize : i = .serialize → Effect s i (serialize s)
  | transmit : i = .transmit → Effect s i (serialize (pack s))
  | unpack : i = .unpack → Effect s i (unpack s)
  | receive (rxf : Memory) : i = .receive → Effect s i (publish (unpack (scanned rxf 71 72 success s)))

section
variable {s t : State} {i : Instr}

theorem Effect.unchanged : Effect s i s := .txf s.txf

theorem Effect.of_txf (h : t = setTxf t.txf s) : Effect s i t := h ▸ .txf t.txf

/-- One arm of a step's case: the step where the arm is taken, nothing otherwise. -/
theorem Effect.arm {taken : Prop} [Decidable taken] (h : Effect s i t) : Effect s i (if taken then t else s) := by
  split
  · exact h
  · exact .unchanged

variable (r : Rev)

theorem packModeArm_effect (m : Mode) : Effect s i (packModeArm r m s) := .arm (.of_txf (packMode_eq r s))

theorem packFanArm_effect (f : Fan) : Effect s i (packFanArm r f s) := .arm (.of_txf (packFan_eq r s))

theorem packPresetArm_effect (p : Preset) : Effect s i (packPresetArm r p s) := .arm (.of_txf (packPreset_eq r s))

theorem unpackModeArm_effect (m : Mode) : Effect s i (unpackModeArm r m s) := .arm (.dec _)

theorem unpackFanArm_effect (f : Fan) : Effect s i (unpackFanArm r f s) := .arm (.dec _)

theorem unpackPresetArm_effect (p : Preset) : Effect s i (unpackPresetArm r p s) := .arm (.dec _)

theorem txHeader_effect : Effect s i (txHeader s) := txHeader_eq s ▸ .symbol _

theorem txBit_effect (b : Bool) : Effect s i (txBit b s) := txBit_eq s b ▸ .symbol _

theorem txFinal_effect : Effect s i (txFinal s) := txFinal_eq s ▸ .symbol _

theorem txGap_effect : Effect s i (txGap s) := txGap_eq s ▸ .symbol _

theorem rxHeader_effect : Effect s i (ending (rxHeader s)) := by
  rcases rxHeader_cases s with ⟨-, h⟩ | ⟨-, h⟩ <;> rw [h]
  · exact .scan s.rxf s.k 1 s.res
  · exact .scan s.rxf s.k 0 ⟨false, .headerMismatch, 0⟩

theorem rxSymbol_effect (b : Bool) : Effect s i (rxSymbol b s) := by
  refine .arm ?_
  split
  next _ u htest =>
    refine .arm ?_
    rw [(rxTest_some htest).1, rxAccept_eq]
    exact .scan (rxfAfter b (setRxc (s.rxc + 1) s)) (s.k + 1) (s.rxc + 1) s.res
  next => exact .scan s.rxf s.k s.rxc ⟨false, .bitMismatch, s.k⟩

theorem deserialize_effect : Effect s i (ending (deserialize s)) := by
  rcases deserialize_cases s with ⟨m, h⟩ | h | ⟨m, j, -, h⟩ <;> rw [h]
  · exact .scan m 71 72 success
  · exact .scan [] s.k 0 ⟨false, .headerMismatch, 0⟩
  · exact .scan m j (1 + j) ⟨false, .bitMismatch, j⟩

theorem deserializeTo_effect (reason : Reason) : Effect s i (deserializeTo reason s) := .arm deserialize_effect

/-- RECEIVE stops with the scan where that rejects, and unpacks and publishes where it succeeds (44_commands.md R222, R223). -/
theorem execReceive_effect (h : execReceive s = .next t) : Effect s .receive t := by
  unfold execReceive at h
  rcases deserialize_cases s with ⟨m, hd⟩ | hd | ⟨m, j, -, hd⟩ <;> rw [hd] at h <;> cases h
  · exact .receive m rfl
  · exact .scan [] s.k 0 ⟨false, .headerMismatch, 0⟩
  · exact .scan m j (1 + j) ⟨false, .bitMismatch, j⟩

/-- Whatever instruction runs, its next state is one of those of `Effect`. -/
theorem exec_effect (h : exec i s = .next t) : Effect s i t := by
  cases i with
  | pack => cases h; exact .of_txf (pack_eq s)
  | serialize => cases h; exact .serialize rfl
  | transmit => cases h; exact .transmit rfl
  | deserialize => cases h; exact deserialize_effect
  | unpack => cases h; exact .unpack rfl
  | receive => exact execReceive_effect h
  | unassigned011 | unassigned111 => cases h
  | frameA d | frameB d | frameC d => cases d <;> cases h; exacts [.txf _, .rxf _]
  | aModeOff d | aModeAuto d | aModeDry d | aModeCool d | aModeFanOnly d
  | bModeOff d | bModeAuto d | bModeCool d | bModeDry d | bModeFanOnly d | bModeHeat d
  | cModeOff d | cModeCool d | cModeDry d | cModeFanOnly d | cModeHeat d | cModeAuto d =>
    cases d <;> cases h; exacts [packModeArm_effect .., unpackModeArm_effect ..]
  | aTemp d | bTemp d | cTemp d => cases d <;> cases h; exacts [.of_txf (packTemp_eq ..), .dec _]
  | aFanAuto d | aFanLow d | aFanMedium d | aFanHigh d
  | bFanAuto d | bFanLow d | bFanMedium d | bFanHigh d
  | cFanLow d | cFanMedium d | cFanHigh d | cFanAuto d =>
    cases d <;> cases h; exacts [packFanArm_effect .., unpackFanArm_effect ..]
  | aNightNone d | aNightSleep d | bNightNone d | bNightSleep d | cNightNone d | cNightSleep d =>
    cases d <;> cases h; exacts [packPresetArm_effect .., unpackPresetArm_effect ..]
  | symHeader d => cases d <;> cases h; exacts [txHeader_effect, rxHeader_effect]
  | symBit1 d | symBit0 d => cases d <;> cases h; exacts [txBit_effect _, rxSymbol_effect _]
  | symFinal d => cases d <;> cases h; exacts [txFinal_effect, .unchanged]
  | symGap d => cases d <;> cases h; exacts [txGap_effect, .unchanged]
  | reasonNone | reasonHeaderMismatch | reasonBitMismatch => cases h; exact deserializeTo_effect _

/-! ### What follows for one field of the state -/

theorem Effect.build (h : Effect s i t) : t.build = s.build := by
  cases h with
  | txf | rxf | dec | symbol | scan => rfl
  | serialize => exact serialize_build s
  | transmit => rw [serialize_build, pack_build]
  | unpack => exact unpack_build s
  | receive => rw [publish_eq, setPub_build, unpack_build]; rfl

theorem Effect.cs (h : Effect s i t) : t.cs = s.cs ∨ i = .unpack ∨ i = .receive := by
  cases h with
  | txf | rxf | dec | symbol | scan => exact .inl rfl
  | serialize => exact .inl (serialize_cs s)
  | transmit => exact .inl (by rw [serialize_cs, pack_cs])
  | unpack hi => exact .inr (.inl hi)
  | receive _ hi => exact .inr (.inr hi)

theorem Effect.emit (h : Effect s i t) :
    t.emit = s.emit ∨ (i = .serialize ∨ i = .transmit) ∧ ∃ e, t.emit = s.emit ++ [e] := by
  cases h with
  | txf | rxf | dec | symbol | scan => exact .inl rfl
  | serialize hi => exact .inr ⟨.inl hi, _, serialize_emit s⟩
  | transmit hi => exact .inr ⟨.inr hi, _, by rw [serialize_emit, pack_emit]⟩
  | unpack => exact .inl (unpack_emit s)
  | receive => exact .inl (by rw [publish_eq, setPub_emit, unpack_emit]; rfl)

theorem Effect.pub (h : Effect s i t) : t.pub = s.pub ∨ i = .receive ∧ ∃ c, t.pub = s.pub ++ [c] := by
  cases h with
  | txf | rxf | dec | symbol | scan => exact .inl rfl
  | serialize => exact .inl (serialize_pub s)
  | transmit => exact .inl (by rw [serialize_pub, pack_pub])
  | unpack => exact .inl (unpack_pub s)
  | receive _ hi => exact .inr ⟨hi, _, by rw [publish_eq, setPub_pub, unpack_pub]; rfl⟩

end

/-! ### The step -/

section
variable {s t : State} {rest : List HostAct}

theorem step_idle (h : s.inbox = []) : step s = .next s := by
  unfold step
  rw [h]

theorem step_writeCs {c : Climate} (h : s.inbox = .writeCs c :: rest) :
    step s = .next (setCs c (setInbox rest s)) := by
  unfold step
  rw [h]
  rfl

theorem step_burst {l : List (Nat × Nat)} (h : s.inbox = .burst l :: rest) :
    step s = .next (setRxc 0 (setRxs l (setInbox rest s))) := by
  unfold step
  rw [h]
  rfl

theorem step_command {word : List Byte} {i : Instr} (h : s.inbox = .command word :: rest)
    (hword : fetchInstr word = some i) : step s = exec i (setInbox rest s) := by
  unfold step
  rw [h]
  simp only [hword]

theorem step_command_refused {word : List Byte} (h : s.inbox = .command word :: rest)
    (hword : fetchInstr word = none) : step s = .refused (.notAnInstruction word) := by
  unfold step
  rw [h]
  simp only [hword]

/-- All that a step can do: nothing, or the first host action of the inbox, taken off it. -/
theorem step_cases (h : step s = .next t) : t = s ∨ ∃ rest,
    (∃ c, t = setCs c (setInbox rest s)) ∨ (∃ l, t = setRxc 0 (setRxs l (setInbox rest s))) ∨
    ∃ i, exec i (setInbox rest s) = .next t := by
  rcases hin : s.inbox with _ | ⟨c | l | word, rest⟩
  · rw [step_idle hin] at h
    exact .inl (Host.Outcome.next.inj h).symm
  · rw [step_writeCs hin] at h
    exact .inr ⟨rest, .inl ⟨c, (Host.Outcome.next.inj h).symm⟩⟩
  · rw [step_burst hin] at h
    exact .inr ⟨rest, .inr (.inl ⟨l, (Host.Outcome.next.inj h).symm⟩)⟩
  · cases hword : fetchInstr word with
    | none => rw [step_command_refused hin hword] at h; cases h
    | some i => exact .inr ⟨rest, .inr (.inr ⟨i, step_command hin hword ▸ h⟩)⟩

end

/-! ### The statements -/

/-- Settles O56: the host's actions leave the build alone, and so does every effect of an instruction. -/
theorem noStepChangesTheBuild : Obligations.NoStepChangesTheBuild := by
  intro s t h
  rcases step_cases h with rfl | ⟨rest, ⟨c, rfl⟩ | ⟨l, rfl⟩ | ⟨i, hexec⟩⟩
  · rfl
  · rfl
  · rfl
  · exact (exec_effect hexec).build

/-- Settles O57, from the effects of an instruction on CS. -/
theorem onlyUnpackAndReceiveWriteCs : Obligations.OnlyUnpackAndReceiveWriteCs := by
  intro i s t h notUnpack notReceive
  exact (exec_effect h).cs.resolve_right (not_or.2 ⟨notUnpack, notReceive⟩)

/-- Settles O58: EMIT and PUB are each as before or longer by one, the latter for the named instructions only. -/
theorem onlyTransmissionsEmitAndOnlyReceivePublishes :
    Obligations.OnlyTransmissionsEmitAndOnlyReceivePublishes := by
  intro i s t h
  have emit := (exec_effect h).emit
  have pub := (exec_effect h).pub
  refine ⟨?emitGrows, ?pubGrows, fun notSerialize notTransmit => ?emitSame, fun notReceive => ?pubSame⟩
  case emitGrows =>
    rcases emit with same | ⟨-, e, grown⟩
    · exact same ▸ List.prefix_rfl
    · exact grown ▸ List.prefix_append ..
  case pubGrows =>
    rcases pub with same | ⟨-, c, grown⟩
    · exact same ▸ List.prefix_rfl
    · exact grown ▸ List.prefix_append ..
  case emitSame => exact emit.resolve_right fun ⟨hi, _⟩ => hi.elim notSerialize notTransmit
  case pubSame => exact pub.resolve_right fun ⟨hi, _⟩ => notReceive hi

/-- Settles O2, from the equations of a step. -/
theorem hostWritesAndBurstsAreCarriedOut : Obligations.HostWritesAndBurstsAreCarriedOut :=
  fun _ _ => ⟨fun _ => step_writeCs, fun _ => step_burst⟩

end Sys2Proof.Proofs

/-! ## PACK reads the build and CS alone, and a temperature fits its field -/

namespace Sys2Proof.Proofs

open Sys2Proof.Machine

/-- Every byte of TXF after PACK is an overlay of fields of REV, its layout and CS, and a canonical buffer is its bytes. -/
theorem pack_txf_congr {s s' : State} (build : s.build = s'.build) (cs : s.cs = s'.cs) :
    (pack s).txf = (pack s').txf := by
  have sameLayout : layout s = layout s' := by rw [layout, layout, build]
  refine memory_ext (pack_wf s) (pack_wf s') fun j => ?_
  rw [readByte_pack, readByte_pack, build, sameLayout, cs]

/-- Settles O14: PACK changes TXF alone, and the buffer it puts there is the same for both states. -/
theorem packDependsOnRevAndCsAlone : Obligations.PackDependsOnRevAndCsAlone := by
  intro s s' build cs
  refine ⟨(pack s).txf, pack_wf s, ?_, ?_⟩
  · rw [exec_pack, ← pack_eq]
  · rw [exec_pack, pack_txf_congr build cs, ← pack_eq]

/-- The subtraction does not wrap, neither below 0 nor out of the byte (40_pack.md R104). -/
theorem tempField_toNat {t : Int} (low : 15 ≤ t) (high : t ≤ 270) : ((tempField t).toNat : Int) = t - 15 := by
  have inByte : (t - 15).toNat < 2 ^ 8 := by omega
  rw [tempField, tempOff, BitVec.toNat_ofNat, Nat.mod_eq_of_lt inByte, Int.toNat_of_nonneg (by omega)]

/-- A byte that fits four bits is shifted to either half of the byte, or between, without a loss. -/
theorem toNat_shiftLeft_of_le_fifteen {v : Byte} (hv : v.toNat ≤ 15) {sh : Nat} (hsh : sh ≤ 4) :
    (v <<< sh).toNat = v.toNat * 2 ^ sh := by
  have inByte : v.toNat * 2 ^ sh < 2 ^ 8 := by
    calc v.toNat * 2 ^ sh ≤ 15 * 2 ^ 4 := Nat.mul_le_mul hv (Nat.pow_le_pow_right (by decide) hsh)
      _ < 2 ^ 8 := by decide
  rw [BitVec.toNat_shiftLeft, Nat.shiftLeft_eq, Nat.mod_eq_of_lt inByte]

/-- Settles O16: the field is t − 15, so the range of t bounds it, and four bits survive a shift of at most 4. -/
theorem tempFieldFitsFourBits : Obligations.TempFieldFitsFourBits := by
  intro t low high
  have value : ((tempField t).toNat : Int) = t - 15 := tempField_toNat (by omega) (by omega)
  have fits : (tempField t).toNat ≤ 15 := by omega
  exact ⟨by omega, fits, value, fun _ => toNat_shiftLeft_of_le_fifteen fits⟩

end Sys2Proof.Proofs

/-! ## The symbol rows, and SERIALIZE followed by DESERIALIZE

A burst whose first pair is a header and whose next 71 pairs read as bits is accepted, and RXF then carries those bits: the scan
is followed by induction on the pairs left. The burst made from a transmission is such a burst, since TIMING and Match keep the
two bits apart, and what its pairs read as are the bits of TXF. -/

namespace Sys2Proof.Proofs

open Sys2Proof.Machine

/-! ### The symbol rows -/

/-- Settles O30: each row is its symbol, and the gap is appended where the round is below ROUNDS. -/
theorem symbolRowsAppendTheirItems : Obligations.SymbolRowsAppendTheirItems := by
  intro s
  have gap : exec (.symGap .tx) s = .next (txGap s) := rfl
  refine ⟨congrArg _ (txHeader_eq s), congrArg _ (txBit_eq s true), congrArg _ (txBit_eq s false), rfl,
    fun first two => ?appended, fun first one => ?onlyRound, fun second => ?lastRound, rfl, rfl⟩
  all_goals rw [gap, txGap_eq]
  case appended => rw [first, two]; rfl
  case onlyRound => simp [first, one, roundCount]
  case lastRound =>
    have noneFollows : ¬2 < roundCount (layout s).rounds := by cases (layout s).rounds <;> decide
    simp [second, noneFollows]

/-! ### The scan of a burst that reads -/

section
variable {s : State}

/-- The two tests of RX_BIT read the pair at the cursor as `readPair` does. -/
theorem rxTest_of_readPair {p : Nat × Nat} {b : Bool} (atCursor : s.rxs[s.rxc]? = some p)
    (reads : readPair (timing s) s.build.tol p = some b) : rxTest s = some (b, setRxc (s.rxc + 1) s) := by
  have matches_eq (mark space : Nat) : pairMatches mark space s =
      (matchDuration s.build.tol mark p.1 && matchDuration s.build.tol space p.2) := by
    rw [pairMatches, atCursor]
  unfold readPair at reads
  rcases rxTest_cases s with ⟨one, h⟩ | ⟨one, zero, h⟩ | ⟨one, zero, -⟩
  · rw [matches_eq] at one
    rw [if_pos one] at reads
    rw [h, Option.some.inj reads]
  · rw [matches_eq] at one zero
    rw [if_neg (Bool.eq_false_iff.1 one), if_pos zero] at reads
    rw [h, Option.some.inj reads]
  · rw [matches_eq] at one zero
    rw [if_neg (Bool.eq_false_iff.1 one), if_neg (Bool.eq_false_iff.1 zero)] at reads
    cases reads

theorem rxBit_of_readPair {p : Nat × Nat} {b : Bool} (atCursor : s.rxs[s.rxc]? = some p)
    (reads : readPair (timing s) s.build.tol p = some b) :
    rxBit s = .ok (setRxc (s.rxc + 1) (setK (s.k + 1) (setRxf (rxfAfter b s) s))) := by
  simp only [rxBit, rxTest_of_readPair atCursor reads, rxAccept_eq]
  cases b <;> rfl

/-- The scan accepts `n` positions that read, and adds their bits to RXF. -/
theorem rxBits_of_reads {bits : Nat → Bool} (n : Nat) (cursor : s.rxc = s.k + 1)
    (reads : ∀ j, s.k ≤ j → j < s.k + n → PositionReads s j (bits j)) :
    ∃ m, rxBits n s = .ok (setRxc (s.rxc + n) (setK (s.k + n) (setRxf m s))) ∧
      ∀ j, bitAt (layout s).order m j =
        (bitAt (layout s).order s.rxf j || (decide (s.k ≤ j ∧ j < s.k + n) && bits j)) := by
  induction n generalizing s with
  | zero => exact ⟨s.rxf, rfl, fun j => by simp [show ¬(s.k ≤ j ∧ j < s.k) by omega]⟩
  | succ n ih =>
    obtain ⟨p, here, readsHere⟩ := reads s.k le_rfl (by omega)
    have acceptsHere := rxBit_of_readPair (cursor ▸ here) readsHere
    obtain ⟨m, rest, carries⟩ := ih (s := setRxc (s.rxc + 1) (setK (s.k + 1) (setRxf (rxfAfter (bits s.k) s) s)))
      (by simp [cursor]) fun j low high => reads j (by simp at low; omega) (by simp at high; omega)
    refine ⟨m, ?_, fun j => ?_⟩
    · simp only [rxBits, acceptsHere, rest]
      simp only [setRxc_rxc, setRxc_k, setK_k, Nat.add_right_comm _ 1 n]
      rfl
    · have bounds : decide (s.k ≤ j ∧ j < s.k + (n + 1)) =
          (decide (j = s.k) || decide (s.k + 1 ≤ j ∧ j < s.k + 1 + n)) := by
        rw [← Bool.decide_or]
        exact decide_eq_decide.2 (by omega)
      have before := rxfAfter_bitAt (bits s.k) s j
      simp only [setRxc_layout, setK_layout, setRxf_layout, setRxc_rxf, setK_rxf, setRxf_rxf, setRxc_k, setK_k]
        at carries
      rw [carries, before, bounds, Bool.and_or_distrib_right, Bool.or_assoc]
      congr 2
      by_cases hj : j = s.k <;> simp [hj]

theorem rxHeader_of_headerFirst (header : HeaderFirst s) : rxHeader s = .ok (setRxc 1 s) := by
  have first : pairMatches (timing s).hdrMark (timing s).hdrSpace (setRxc 0 s) = true := pairMatches_iff.2 header
  rcases rxHeader_cases s with ⟨-, h⟩ | ⟨mismatch, -⟩
  · exact h
  · exact absurd first (Bool.eq_false_iff.1 mismatch)

/-- DESERIALIZE accepts a burst whose header and 71 data positions read, and RXF carries their bits and no other. -/
theorem deserialize_of_reads {bits : Nat → Bool} (header : HeaderFirst s)
    (reads : ∀ k, k < 71 → PositionReads s k (bits k)) :
    ∃ m, deserialize s = .ok (setRes success (setRxc 72 (setK 71 (setRxf m s)))) ∧
      ∀ j, bitAt (layout s).order m j = (decide (j < 71) && bits j) := by
  have headerEmptied : rxHeader (setRxf [] s) = .ok (setRxc 1 (setRxf [] s)) := rxHeader_of_headerFirst header
  obtain ⟨m, scan, carries⟩ := rxBits_of_reads (s := setK 0 (setRxc 1 (setRxf [] s))) (bits := bits) nBits rfl
    fun j _ high => reads j (by simpa [nBits] using high)
  refine ⟨m, ?_, fun j => ?_⟩
  · simp only [deserialize, headerEmptied, scan]
    rfl
  · simpa [bitAt, nBits] using carries j

end

/-! ### The burst made from a transmission -/

section
variable (T : Timing) (o : BitOrder) (m : Memory)

/-- The pairs of `n` data bits from position `k` on. -/
def bitPairs (n k : Nat) : List (Nat × Nat) :=
  (List.range' k n).map fun j => (T.bitMark, bitSpace T (bitAt o m j))

theorem pairs_bitItems_append (idle n k : Nat) (rest : List Item) :
    pairs idle (bitItems T o m n k ++ rest) = bitPairs T o m n k ++ pairs idle rest := by
  induction n generalizing k with
  | zero => rfl
  | succ n ih =>
    calc pairs idle (bitItems T o m (n + 1) k ++ rest)
        = (T.bitMark, bitSpace T (bitAt o m k)) :: pairs idle (bitItems T o m n (k + 1) ++ rest) := rfl
      _ = bitPairs T o m (n + 1) k ++ pairs idle rest := by rw [ih]; rfl

theorem pairs_roundOf_append (L : Layout) (idle rd : Nat) (rest : List Item) :
    ∃ tail, pairs idle (roundOf T L m rd ++ rest) =
      (T.hdrMark, T.hdrSpace) :: (bitPairs T L.order m nBits 0 ++ tail) := by
  simp only [roundOf, List.append_assoc]
  exact ⟨_, congrArg (List.cons _) (pairs_bitItems_append ..)⟩

/-- However many rounds a transmission has, its burst begins with the header pair and the 71 data pairs. -/
theorem pairs_itemsOf (L : Layout) (idle : Nat) :
    ∃ tail, pairs idle (itemsOf T L m) = (T.hdrMark, T.hdrSpace) :: (bitPairs T L.order m nBits 0 ++ tail) := by
  unfold itemsOf
  split
  · simpa using pairs_roundOf_append T m L idle 1 []
  · exact pairs_roundOf_append T m L idle 1 _

end

/-- TIMING and Match keep the bits apart: the pair that carries a bit reads as that bit (30_encoding.md R78). -/
theorem readPair_bitSpace {T : Timing} {tol : Tolerance} (usable : TimingUsable T tol) (b : Bool) :
    readPair T tol (T.bitMark, bitSpace T b) = some b := by
  obtain ⟨-, -, bitMark, oneSpace, zeroSpace, -⟩ := usable.positive
  cases b with
  | true => simp [readPair, bitSpace, usable.m1 _ bitMark, usable.m1 _ oneSpace]
  | false => simp [readPair, bitSpace, usable.m1 _ bitMark, usable.m1 _ zeroSpace, usable.apart]

section
variable (s : State) (idle : Nat)

theorem exec_serialize : exec .serialize s = .next (serialize s) := rfl

theorem exec_deserialize : exec .deserialize s = .next (ending (deserialize s)) := rfl

theorem lastItems_serialize : lastItems (serialize s) = itemsOf (timing s) (layout s) s.txf := by
  simp [lastItems, serialize_emit]

@[simp] theorem loopBack_build : (loopBack idle s).build = s.build := rfl

theorem loopBack_serialize_timing : timing (loopBack idle (serialize s)) = timing s := by simp [timing]

theorem loopBack_serialize_layout : layout (loopBack idle (serialize s)) = layout s := by simp [layout]

theorem loopBack_serialize_rxs : ∃ tail, (loopBack idle (serialize s)).rxs =
    ((timing s).hdrMark, (timing s).hdrSpace) :: (bitPairs (timing s) (layout s).order s.txf nBits 0 ++ tail) := by
  simp only [loopBack, handBurst_eq, setRxc_rxs, setRxs_rxs, lastItems_serialize]
  exact pairs_itemsOf ..

variable {s idle} (usable : TimingUsable (timing s) s.build.tol)
include usable

theorem headerFirst_loopBack_serialize : HeaderFirst (loopBack idle (serialize s)) := by
  obtain ⟨hdrMark, hdrSpace, -⟩ := usable.positive
  obtain ⟨tail, burst⟩ := loopBack_serialize_rxs s idle
  refine ⟨((timing s).hdrMark, (timing s).hdrSpace), by rw [burst]; rfl, ?_⟩
  rw [loopBack_serialize_timing, loopBack_build, serialize_build]
  exact ⟨usable.m1 _ hdrMark, usable.m1 _ hdrSpace⟩

theorem positionReads_loopBack_serialize {k : Nat} (hk : k < 71) :
    PositionReads (loopBack idle (serialize s)) k (bitAt (layout s).order s.txf k) := by
  obtain ⟨tail, burst⟩ := loopBack_serialize_rxs s idle
  refine ⟨((timing s).bitMark, bitSpace (timing s) (bitAt (layout s).order s.txf k)), ?_, ?_⟩
  · rw [burst, List.getElem?_cons_succ, List.getElem?_append_left (by simpa [bitPairs, nBits] using hk)]
    simp [bitPairs, nBits, hk]
  · rw [loopBack_serialize_timing, loopBack_build, serialize_build]
    exact readPair_bitSpace usable _

end

/-- Settles O39: the burst of a transmission reads as the bits of TXF, so the scan accepts it and stores those bits. -/
theorem deserializeInvertsSerialize : Obligations.DeserializeInvertsSerialize := by
  intro s idle usable
  obtain ⟨m, accepted, carries⟩ := deserialize_of_reads (headerFirst_loopBack_serialize (idle := idle) usable)
    fun _ => positionReads_loopBack_serialize usable
  rw [loopBack_serialize_layout] at carries
  refine ⟨serialize s, _, exec_serialize s, exec_deserialize _, ?_⟩
  rw [accepted]
  exact ⟨rfl, rfl, fun k hk => by simpa [hk] using carries k, by simpa using carries 71⟩

end Sys2Proof.Proofs

/-! ## DESERIALIZE of a burst that reads -/

namespace Sys2Proof.Proofs

open Sys2Proof.Machine

/-- However the scan ends, DESERIALIZE leaves RXF in canonical form: it starts from the empty buffer, and each step keeps it. -/
theorem deserialize_wf (s : State) : Memory.wf (ending (deserialize s)).rxf = true := by
  unfold deserialize
  rcases rxHeader_cases (setRxf [] s) with ⟨first, accepts⟩ | ⟨-, rejects⟩
  · have scan := (rxBits_keeps nBits (setK 0 (setRxc 1 (setRxf [] s))) Memory.wf_nil le_rfl (pairMatches_lt first)).1
    simp only [accepts]
    cases outcome : rxBits nBits (setK 0 (setRxc 1 (setRxf [] s))) <;> rwa [outcome] at scan
  · rw [rejects]
    exact Memory.wf_nil

/-- Settles O34: the scan accepts the burst and stores its 71 bits in the emptied RXF, whose canonical form it keeps. -/
theorem deserializeReassemblesTheBits : Obligations.DeserializeReassemblesTheBits := by
  intro s bits header reads
  obtain ⟨m, accepted, carries⟩ := deserialize_of_reads header reads
  have canonical := deserialize_wf s
  rw [accepted] at canonical
  exact ⟨m, by rw [exec_deserialize, accepted]; rfl, fun k hk => by simpa [hk] using carries k,
    by simpa using carries 71, canonical⟩

end Sys2Proof.Proofs

/-! ## UNPACK as its FIELD rows, and the lookup of the mode

On the receive side each field of a revision has one row per value, in the order of the arms of its case, and the temperature
has a single row. The rows of one field, run in order, are that field's step: at least one of them takes its
arm, and once the step is done no row changes the state further. -/

namespace Sys2Proof.Proofs

open Sys2Proof.Machine Sys2Proof.Claims

theorem exec_unpack (s : State) : exec .unpack s = .next (unpack s) := rfl

theorem unpack_cs (s : State) : (unpack s).cs = decoded s.build.rev s := by rw [unpack_eq, setCs_cs]

/-! ### The rows of one field -/

/-- The arms of the listed values, one after the other. -/
def runArms {α : Type} (arm : α → State → State) (values : List α) (s : State) : State :=
  values.foldl (fun t v => arm v t) s

section
variable {α : Type} {arm : α → State → State} {values : List α} {s t : State}

theorem runArms_done (done : ∀ v, arm v t = t) : runArms arm values t = t := by
  induction values with
  | nil => rfl
  | cons v values ih => rw [runArms, List.foldl_cons, done v]; exact ih

/-- Arms that each do the whole step from `s` to `t` or nothing do the step, if one of them is taken. -/
theorem runArms_eq_step {taken : α → Prop} [DecidablePred taken] (armStep : ∀ v, arm v s = if taken v then t else s)
    (done : ∀ v, arm v t = t) (covered : ∃ v ∈ values, taken v) : runArms arm values s = t := by
  induction values with
  | nil => obtain ⟨_, hv, -⟩ := covered; cases hv
  | cons v values ih =>
    rw [runArms, List.foldl_cons, armStep v]
    split
    next => exact runArms_done done
    next skipped =>
      obtain ⟨w, hw, takenW⟩ := covered
      have later : w ∈ values := (List.mem_cons.1 hw).resolve_left fun h => skipped (h ▸ takenW)
      exact ih ⟨w, later, takenW⟩

end

section
variable (r : Rev) (s : State)

/-! A step reads RXF, CS and the build, none of which a step writes, so an arm run after its step does nothing more. -/

theorem unpackModeArm_done (m : Mode) : unpackModeArm r m (unpackMode r s) = unpackMode r s := ite_self (unpackMode r s)

theorem unpackFanArm_done (f : Fan) : unpackFanArm r f (unpackFan r s) = unpackFan r s := ite_self (unpackFan r s)

theorem unpackPresetArm_done (p : Preset) : unpackPresetArm r p (unpackPreset r s) = unpackPreset r s :=
  ite_self (unpackPreset r s)

/-- The mode rows are the mode step: UNPACK finds a mode of the revision or OFF (43_unpack.md R193). -/
theorem modeArms_eq_unpackMode : runArms (unpackModeArm r) (.off :: modeArms r) s = unpackMode r s :=
  runArms_eq_step (fun _ => rfl) (unpackModeArm_done r s)
    ⟨rxMode r s, List.mem_cons.2 (modeOf_mem r _ _), rfl⟩

theorem mem_fanArms (f : Fan) : f ∈ fanArms r := by cases r <;> cases f <;> decide

/-- The fan rows are the fan step: where no code matches, every one of them keeps CS.fan (43_unpack.md R199). -/
theorem fanArms_eq_unpackFan : runArms (unpackFanArm r) (fanArms r) s = unpackFan r s := by
  have taken : ∃ f, (rxFan r s).getD f = f := by
    cases rxFan r s with
    | none => exact ⟨.auto, rfl⟩
    | some f => exact ⟨f, rfl⟩
  obtain ⟨f, hf⟩ := taken
  exact runArms_eq_step (fun _ => rfl) (unpackFanArm_done r s) ⟨f, mem_fanArms r f, hf⟩

theorem presetArms_eq_unpackPreset : runArms (unpackPresetArm r) [.none, .sleep] s = unpackPreset r s := by
  have listed (p : Preset) : p ∈ [Preset.none, .sleep] := by cases p <;> decide
  exact runArms_eq_step (fun _ => rfl) (unpackPresetArm_done r s) ⟨rxPreset r s, listed _, rfl⟩

theorem runAll_cons_of_next {i : Instr} {rows : List Instr} {s t : State} (h : exec i s = .next t) :
    runAll (i :: rows) s = runAll rows t := by rw [runAll, h]

/-- Each row is one arm, and the table's rows stand in the order of the arms of each case, OFF's row before the other modes. -/
theorem runAll_rows_rx : runAll (rowsOf r .rx) s = .next (runArms (unpackPresetArm r) [.none, .sleep]
    (runArms (unpackFanArm r) (fanArms r) (unpackTemp r (runArms (unpackModeArm r) (.off :: modeArms r) s)))) := by
  cases r
  all_goals
    repeat refine (runAll_cons_of_next rfl).trans ?_
    simp only [runAll, runArms, modeArms, fanArms, List.foldl]

theorem unpackSteps_eq :
    unpackPreset r (unpackFan r (unpackTemp r (unpackMode r s))) = setDec (decoded r s) s := rfl

end

/-- Settles O24: the rows of each field are its step, and the four steps leave in m, t, f, p what UNPACK writes to CS. -/
theorem fieldRowsInOrderAreUnpack : Obligations.FieldRowsInOrderAreUnpack := by
  intro s
  refine ⟨setDec (decoded s.build.rev s) s, unpack s, ?_, exec_unpack s, by rw [unpack_cs]⟩
  rw [runAll_rows_rx, modeArms_eq_unpackMode, fanArms_eq_unpackFan, presetArms_eq_unpackPreset, unpackSteps_eq]

/-! ### The lookup of the mode -/

/-- The modes of the codes in `ModeCodes.list`, in the same order. -/
def listedModes : List Mode := [.auto, .cool, .dry, .fanOnly, .heat]

section
variable {r : Rev} {L : Layout} {m m' : Mode} {v : Byte}

theorem mem_listedModes (notOff : m ≠ .off) : m ∈ listedModes := by
  cases m with
  | off => exact absurd rfl notOff
  | cool | dry | heat | fanOnly | auto => decide

theorem modeCode_listed (notOff : m ≠ .off) (code : modeCode r L m = some v) :
    L.modeCodes.list[listedModes.idxOf m]? = some v := by
  cases m with
  | off => exact absurd rfl notOff
  | cool | dry | fanOnly | auto => exact code
  | heat =>
    cases r with
    | A => cases code
    | B | C =>
      have heat : L.modeCodes.heat = some v := code
      rw [ModeCodes.list, heat]
      rfl

/-- Two modes other than OFF with the same code are the same mode (30_encoding.md R79 (b)). -/
theorem modeCode_inj (wf : L.WfModes) (notOff : m ≠ .off) (notOff' : m' ≠ .off) (code : modeCode r L m = some v)
    (code' : modeCode r L m' = some v) : m = m' := by
  obtain ⟨distinct, -⟩ := wf
  have codeAt := modeCode_listed notOff code
  have codeAt' := modeCode_listed notOff' code'
  obtain ⟨inList, -⟩ := List.getElem?_eq_some_iff.1 codeAt
  have sameIndex : listedModes.idxOf m = listedModes.idxOf m' :=
    (List.getElem?_inj inList distinct).1 (codeAt.trans codeAt'.symm)
  exact (List.idxOf_inj (mem_listedModes notOff)).1 sameIndex

/-- UNPACK has an arm for each mode with a code but OFF. -/
theorem mem_modeArms (notOff : m ≠ .off) (code : modeCode r L m = some v) : m ∈ modeArms r := by
  cases m with
  | off => exact absurd rfl notOff
  | cool | dry | fanOnly | auto => cases r <;> decide
  | heat =>
    cases r with
    | A => cases code
    | B | C => decide

theorem off_notMem_modeArms (r : Rev) : Mode.off ∉ modeArms r := by cases r <;> decide

/-- What the lookup finds: OFF where no other mode has the code, else a mode that has it (43_unpack.md R193). -/
theorem modeOf_cases (r : Rev) (L : Layout) (v : Byte) :
    (modeOf r L v = .off ∧ ∀ m, m ≠ .off → modeCode r L m ≠ some v) ∨
    (modeOf r L v ≠ .off ∧ modeCode r L (modeOf r L v) = some v) := by
  unfold modeOf
  cases found : (modeArms r).find? fun m => decide (modeCode r L m = some v) with
  | none =>
    refine .inl ⟨rfl, fun m notOff code => ?_⟩
    exact List.find?_eq_none.1 found m (mem_modeArms notOff code) (decide_eq_true code)
  | some m =>
    have hasCode := List.find?_some found
    exact .inr ⟨fun off => off_notMem_modeArms r (off ▸ List.mem_of_find?_eq_some found), of_decide_eq_true hasCode⟩

end

/-- Settles O43: the mode UNPACK writes is the one looked up, and under WF a code belongs to one mode. -/
theorem modeIsLookedUpByItsCode : Obligations.ModeIsLookedUpByItsCode := by
  rintro s v rfl
  refine ⟨unpack s, exec_unpack s, ?_⟩
  rw [unpack_cs]
  rcases modeOf_cases s.build.rev (layout s) (rxField (layout s).modeByte (layout s).modeMask s) with
    ⟨off, noCode⟩ | ⟨notOff, found⟩
  · exact ⟨fun _ => off, fun m hm _ code => absurd code (noCode m hm)⟩
  · exact ⟨fun unmatched => absurd found (unmatched _ notOff), fun m hm wf code => modeCode_inj wf notOff hm found code⟩

end Sys2Proof.Proofs

/-! ## TRANSMIT and RECEIVE, and the two paths apart

TRANSMIT is SERIALIZE after PACK, so what it keeps is what both keep, and the event it appends is a function of the build and CS,
which it keeps. RECEIVE is DESERIALIZE followed, where that accepts, by UNPACK and a publish. DESERIALIZE accepts only a burst
that begins with a header and reads at every one of the 71 positions, so a burst that fails one of the tests is rejected. -/

namespace Sys2Proof.Proofs

open Sys2Proof.Machine Sys2Proof.Claims

/-! ### TRANSMIT -/

section
variable (s : State)

@[simp] theorem pack_rxf : (pack s).rxf = s.rxf := by rw [pack_eq, setTxf_rxf]
@[simp] theorem pack_rxc : (pack s).rxc = s.rxc := by rw [pack_eq, setTxf_rxc]
@[simp] theorem pack_res : (pack s).res = s.res := by rw [pack_eq, setTxf_res]

@[simp] theorem serialize_rxf : (serialize s).rxf = s.rxf := by simp [serialize_eq]
@[simp] theorem serialize_rxc : (serialize s).rxc = s.rxc := by simp [serialize_eq]
@[simp] theorem serialize_res : (serialize s).res = s.res := by simp [serialize_eq]

theorem exec_transmit : exec .transmit s = .next (serialize (pack s)) := rfl

/-- The event of a TRANSMIT: the frame that PACK makes, on the carrier (44_commands.md R220). -/
def transmission : Emission := ⟨38000, itemsOf (timing s) (layout s) (pack s).txf⟩

theorem transmit_emit : (serialize (pack s)).emit = s.emit ++ [transmission s] := by
  rw [serialize_emit, pack_emit, timing, layout, pack_build]
  rfl

/-- The event is read off the build and CS alone. -/
theorem transmission_congr {s s' : State} (build : s.build = s'.build) (cs : s.cs = s'.cs) :
    transmission s = transmission s' := by
  rw [transmission, transmission, timing, timing, layout, layout, pack_txf_congr build cs, build]

/-- A TRANSMIT keeps the build and CS, so the next one sends the same event. -/
theorem transmission_transmit : transmission (serialize (pack s)) = transmission s :=
  transmission_congr (by rw [serialize_build, pack_build]) (by rw [serialize_cs, pack_cs])

end

/-- Settles O48, from the frames of PACK and SERIALIZE and the event of a TRANSMIT. -/
theorem transmitIsPackThenSerialize : Obligations.TransmitIsPackThenSerialize := by
  intro s
  refine ⟨pack s, serialize (pack s), serialize (pack (serialize (pack s))), transmission s, exec_pack s,
    exec_serialize (pack s), exec_transmit s, by simp, by simp, by simp, by simp, by simp,
    exec_transmit (serialize (pack s)), transmit_emit s, ?_⟩
  rw [transmit_emit, transmission_transmit, transmit_emit, List.append_assoc]
  rfl

/-! ### What an accepted burst is -/

section
variable {s t : State} {b : Bool}

/-- The bit RX_BIT's tests read is the one `readPair` gives for the pair at the cursor. -/
theorem readPair_of_rxTest (h : rxTest s = some (b, t)) :
    ∃ p, s.rxs[s.rxc]? = some p ∧ readPair (timing s) s.build.tol p = some b := by
  rcases rxTest_cases s with ⟨one, read⟩ | ⟨notOne, zero, read⟩ | ⟨-, -, read⟩ <;> rw [read] at h <;> cases h
  · obtain ⟨p, atCursor, mark, space⟩ := pairMatches_iff.1 one
    exact ⟨p, atCursor, by simp [readPair, mark, space]⟩
  · obtain ⟨p, atCursor, mark, space⟩ := pairMatches_iff.1 zero
    have noOneSpace : matchDuration s.build.tol (timing s).oneSpace p.2 = false :=
      Bool.eq_false_iff.2 fun oneSpace => Bool.eq_false_iff.1 notOne (pairMatches_iff.2 ⟨p, atCursor, mark, oneSpace⟩)
    exact ⟨p, atCursor, by simp [readPair, mark, noOneSpace, space]⟩

/-- RX_BIT goes on only where the pair at the cursor reads as a bit, and then accepts that bit. -/
theorem rxBit_ok (h : rxBit s = .ok t) : ∃ b p, s.rxs[s.rxc]? = some p ∧ readPair (timing s) s.build.tol p = some b ∧
    t = setRxc (s.rxc + 1) (setK (s.k + 1) (setRxf (rxfAfter b s) s)) := by
  cases test : rxTest s with
  | none => simp [rxBit, test] at h
  | some read =>
    obtain ⟨p, atCursor, reads⟩ := readPair_of_rxTest (b := read.1) (t := read.2) test
    rw [rxBit_of_readPair atCursor reads] at h
    exact ⟨read.1, p, atCursor, reads, (Except.ok.inj h).symm⟩

/-- A scan that goes on to its end has read every position it passed. -/
theorem positionReads_of_rxBits_ok (n : Nat) (cursor : s.rxc = s.k + 1) (h : rxBits n s = .ok t) :
    ∀ j, s.k ≤ j → j < s.k + n → ∃ b, PositionReads s j b := by
  induction n generalizing s with
  | zero => intro j low high; omega
  | succ n ih =>
    intro j low high
    cases bit : rxBit s with
    | error u => simp [rxBits, bit] at h
    | ok u =>
      obtain ⟨b, p, here, reads, rfl⟩ := rxBit_ok bit
      simp only [rxBits, bit] at h
      rcases Nat.eq_or_lt_of_le low with rfl | later
      · exact ⟨b, p, cursor ▸ here, reads⟩
      · exact ih (by simp [cursor]) h j later (by simp; omega)

/-- DESERIALIZE accepts no burst but one whose header and 71 data positions read: the converse of `deserialize_of_reads`. -/
theorem reads_of_deserialize_ok (h : deserialize s = .ok t) :
    HeaderFirst s ∧ ∀ k, k < 71 → ∃ b, PositionReads s k b := by
  unfold deserialize at h
  rcases rxHeader_cases (setRxf [] s) with ⟨header, accepts⟩ | ⟨-, rejects⟩
  · simp only [accepts] at h
    cases scan : rxBits nBits (setK 0 (setRxc 1 (setRxf [] s))) with
    | error u => simp [scan] at h
    | ok u =>
      exact ⟨pairMatches_iff.1 header, fun k hk =>
        positionReads_of_rxBits_ok nBits rfl scan k (Nat.zero_le k) (by simpa [nBits] using hk)⟩
  · simp [rejects] at h

/-! ### RECEIVE -/

theorem exec_receive (s : State) : exec .receive s = execReceive s := rfl

theorem exec_receive_of_ok (h : deserialize s = .ok t) : exec .receive s = .next (publish (unpack t)) := by
  rw [exec_receive, execReceive, h]

theorem exec_receive_of_error (h : deserialize s = .error t) : exec .receive s = .next t := by
  rw [exec_receive, execReceive, h]

/-- RECEIVE ends with the rejection, or unpacks and publishes. -/
theorem exec_receive_cases (h : exec .receive s = .next t) :
    deserialize s = .error t ∨ ∃ u, deserialize s = .ok u ∧ t = publish (unpack u) := by
  cases scan : deserialize s with
  | error u =>
    rw [exec_receive_of_error scan] at h
    exact .inl (congrArg _ (Host.Outcome.next.inj h))
  | ok u =>
    rw [exec_receive_of_ok scan] at h
    exact .inr ⟨u, rfl, (Host.Outcome.next.inj h).symm⟩

/-- A rejection writes RXF, the sequencer position, the cursor and a RES that is no success, and nothing else. -/
theorem deserialize_error (h : deserialize s = .error t) :
    t.res.ok = false ∧ t = { s with rxf := t.rxf, k := t.k, rxc := t.rxc, res := t.res } := by
  rcases deserialize_cases s with ⟨m, ends⟩ | ends | ⟨m, j, -, ends⟩ <;> rw [ends] at h <;> cases h <;> exact ⟨rfl, rfl⟩

end

/-- Settles O49: DESERIALIZE accepts the burst, and UNPACK keeps PUB and the RES it wrote. -/
theorem receiveUnpacksAndPublishesOnSuccess : Obligations.ReceiveUnpacksAndPublishesOnSuccess := by
  intro s bits header reads
  obtain ⟨m, accepted, -⟩ := deserialize_of_reads header reads
  refine ⟨_, _, by rw [exec_deserialize, accepted, ending_ok], exec_unpack _, ?_, ?_⟩
  · rw [exec_receive_of_ok accepted, publish_eq, unpack_pub]
    rfl
  · rw [unpack_eq]
    rfl

/-- Settles O50: an accepted burst would have a header and no failing position, so the scan ends in a rejection, and RECEIVE with
it. -/
theorem receiveStopsAtARejection : Obligations.ReceiveStopsAtARejection := by
  intro s bad
  cases scan : deserialize s with
  | error t =>
    obtain ⟨notOk, frame⟩ := deserialize_error scan
    exact ⟨t, by rw [exec_deserialize, scan, ending_error], exec_receive_of_error scan, notOk, frame⟩
  | ok t =>
    obtain ⟨header, reads⟩ := reads_of_deserialize_ok scan
    rcases bad with noHeader | ⟨-, j, hj, fails, -⟩
    · exact absurd header noHeader
    · obtain ⟨b, p, atPosition, read⟩ := reads j hj
      rw [fails p atPosition] at read
      cases read

/-! ### The two paths -/

section
variable {s t u : State}

theorem sameButTransmitSide_trans (h : SameButTransmitSide s t) (h' : SameButTransmitSide t u) :
    SameButTransmitSide s u := by
  cases s; cases t; cases u
  simp_all [SameButTransmitSide]

theorem sameButReceiveSide_trans (h : SameButReceiveSide s t) (h' : SameButReceiveSide t u) : SameButReceiveSide s u := by
  cases s; cases t; cases u
  simp_all [SameButReceiveSide]

variable (s)

theorem pack_transmitSide : SameButTransmitSide s (pack s) := by
  rw [pack_eq]
  rfl

theorem serialize_transmitSide : SameButTransmitSide s (serialize s) := by
  rw [serialize_eq]
  rfl

theorem deserialize_receiveSide : SameButReceiveSide s (ending (deserialize s)) := by
  rcases deserialize_cases s with ⟨m, h⟩ | h | ⟨m, j, -, h⟩ <;> rw [h] <;> rfl

theorem unpack_receiveSide : SameButReceiveSide s (unpack s) := by
  rw [unpack_eq]
  rfl

theorem publish_receiveSide : SameButReceiveSide s (publish s) := rfl

variable {s}

theorem receive_receiveSide (h : exec .receive s = .next t) : SameButReceiveSide s t := by
  have scan := deserialize_receiveSide s
  rcases exec_receive_cases h with rejected | ⟨v, accepted, rfl⟩
  · rwa [rejected] at scan
  · rw [accepted] at scan
    exact sameButReceiveSide_trans (sameButReceiveSide_trans scan (unpack_receiveSide v)) (publish_receiveSide (unpack v))

end

/-- Settles O59, from the frame of each operation; those of TRANSMIT and RECEIVE compose the frames of their parts. -/
theorem transmitAndReceivePathsAreSeparate : Obligations.TransmitAndReceivePathsAreSeparate := by
  refine fun i s t h => ⟨?transmitSide, ?receiveSide⟩
  case transmitSide =>
    rintro (rfl | rfl | rfl)
    · cases h; exact pack_transmitSide s
    · cases h; exact serialize_transmitSide s
    · cases h; exact sameButTransmitSide_trans (pack_transmitSide s) (serialize_transmitSide (pack s))
  case receiveSide =>
    rintro (rfl | rfl | rfl)
    · cases h; exact deserialize_receiveSide s
    · cases h; exact unpack_receiveSide s
    · exact receive_receiveSide h

/-! ### Reset -/

/-- Settles O1: the reset ports are read off `State.reset`, and an empty inbox leaves a step nothing to do. -/
theorem resetPortsAreEmptyAndTheBlockIsIdle : Obligations.ResetPortsAreEmptyAndTheBlockIsIdle :=
  ⟨rfl, rfl, rfl, rfl, rfl, rfl, fun _ => step_idle⟩

end Sys2Proof.Proofs

/-! ## Rejections

The scan stops at the first test that fails: at the header, where it has touched nothing but the cursor, or at the first data
position that is missing or reads as neither bit, after it has stored the bits before that position. A scan starts from an empty
RXF, position 0 and the first pair, and reads no RES, so a rejection leaves nothing behind that a later operation reads. -/

namespace Sys2Proof.Proofs

open Sys2Proof.Machine

/-! ### Every instruction completes -/

theorem exec_receive_next (s : State) : ∃ t, exec .receive s = .next t := by
  cases scan : deserialize s with
  | error t => exact ⟨t, exec_receive_of_error scan⟩
  | ok t => exact ⟨publish (unpack t), exec_receive_of_ok scan⟩

/-- Settles O60: each row's arm answers a next state, on either side of the codec; RECEIVE does so however its scan ends. -/
theorem everyAssignedInstructionCompletes : Obligations.EveryAssignedInstructionCompletes := by
  intro i s not011 not111
  cases i with
  | unassigned011 => exact absurd rfl not011
  | unassigned111 => exact absurd rfl not111
  | receive => exact exec_receive_next s
  | pack | serialize | transmit | deserialize | unpack
  | reasonNone | reasonHeaderMismatch | reasonBitMismatch => exact ⟨_, rfl⟩
  | frameA d | frameB d | frameC d
  | aModeOff d | aModeAuto d | aModeDry d | aModeCool d | aModeFanOnly d
  | bModeOff d | bModeAuto d | bModeCool d | bModeDry d | bModeFanOnly d | bModeHeat d
  | cModeOff d | cModeCool d | cModeDry d | cModeFanOnly d | cModeHeat d | cModeAuto d
  | aTemp d | bTemp d | cTemp d
  | aFanAuto d | aFanLow d | aFanMedium d | aFanHigh d
  | bFanAuto d | bFanLow d | bFanMedium d | bFanHigh d
  | cFanLow d | cFanMedium d | cFanHigh d | cFanAuto d
  | aNightNone d | aNightSleep d | bNightNone d | bNightSleep d | cNightNone d | cNightSleep d
  | symHeader d | symBit1 d | symBit0 d | symFinal d | symGap d => cases d <;> exact ⟨_, rfl⟩

/-! ### The header -/

section
variable {s : State}

/-- The complement of `rxHeader_of_headerFirst`. -/
theorem rxHeader_of_not_headerFirst (noHeader : ¬HeaderFirst s) :
    rxHeader s = .error (setRes ⟨false, .headerMismatch, 0⟩ (setRxc 0 s)) := by
  rcases rxHeader_cases s with ⟨first, -⟩ | ⟨-, rejects⟩
  · exact absurd (pairMatches_iff.1 first) noHeader
  · exact rejects

theorem deserialize_of_not_headerFirst (noHeader : ¬HeaderFirst s) :
    deserialize s = .error (setRes ⟨false, .headerMismatch, 0⟩ (setRxc 0 (setRxf [] s))) := by
  have rejects : rxHeader (setRxf [] s) = _ := rxHeader_of_not_headerFirst noHeader
  rw [deserialize, rejects]

end

theorem exec_symHeader_rx (s : State) : exec (.symHeader .rx) s = .next (ending (rxHeader s)) := rfl

/-- Settles O32: the row is RX_HEADER, which accepts exactly where the first pair is a header. -/
theorem headerRowExpectsOrRejects : Obligations.HeaderRowExpectsOrRejects := by
  refine fun s => ⟨fun header => ?_, fun noHeader => ?_⟩
  · rw [exec_symHeader_rx, rxHeader_of_headerFirst header, ending_ok]
  · rw [exec_symHeader_rx, rxHeader_of_not_headerFirst noHeader, ending_error]

/-- Settles O35: RX_HEADER rejects, and the scan has emptied RXF before. -/
theorem deserializeRejectsABadHeader : Obligations.DeserializeRejectsABadHeader := by
  intro s noHeader
  rw [exec_deserialize, deserialize_of_not_headerFirst noHeader, ending_error]

/-! ### The bit rows -/

section
variable {s : State} {p : Nat × Nat} {c : Bool}

/-- Both tests fail exactly where no pair at the cursor reads as a bit. -/
theorem rxTest_eq_none_iff :
    rxTest s = none ↔ ∀ p, s.rxs[s.rxc]? = some p → readPair (timing s) s.build.tol p = none := by
  constructor
  · intro bothFail p atCursor
    cases reads : readPair (timing s) s.build.tol p with
    | none => rfl
    | some b =>
      rw [rxTest_of_readPair atCursor reads] at bothFail
      cases bothFail
  · intro neither
    cases test : rxTest s with
    | none => rfl
    | some read =>
      obtain ⟨p, atCursor, reads⟩ := readPair_of_rxTest (b := read.1) (t := read.2) test
      rw [neither p atCursor] at reads
      cases reads

theorem rxBit_of_neither (neither : ∀ p, s.rxs[s.rxc]? = some p → readPair (timing s) s.build.tol p = none) :
    rxBit s = .error (rejectBit s) := by
  rw [rxBit, rxTest_eq_none_iff.2 neither]

/-- The row of the bit the pair reads as accepts that bit, and the other row does nothing. -/
theorem rxSymbol_of_readPair (inFrame : s.k < 71) (atCursor : s.rxs[s.rxc]? = some p)
    (reads : readPair (timing s) s.build.tol p = some c) (b : Bool) :
    rxSymbol b s = if c = b then setRxc (s.rxc + 1) (setK (s.k + 1) (setRxf (rxfAfter b s) s)) else s := by
  rw [rxSymbol, nBits, if_pos inFrame, rxTest_of_readPair atCursor reads]
  cases b <;> rfl

theorem rxSymbol_of_neither (inFrame : s.k < 71)
    (neither : ∀ p, s.rxs[s.rxc]? = some p → readPair (timing s) s.build.tol p = none) (b : Bool) :
    rxSymbol b s = setRes ⟨false, .bitMismatch, s.k⟩ s := by
  rw [rxSymbol, nBits, if_pos inFrame, rxTest_eq_none_iff.2 neither, rejectBit_eq]

/-- After position 70 no bit is expected. -/
theorem rxSymbol_of_complete (complete : 71 ≤ s.k) (b : Bool) : rxSymbol b s = s :=
  if_neg (Nat.not_lt.2 complete)

end

theorem exec_symBit1_rx (s : State) : exec (.symBit1 .rx) s = .next (rxSymbol true s) := rfl

theorem exec_symBit0_rx (s : State) : exec (.symBit0 .rx) s = .next (rxSymbol false s) := rfl

/-- Settles O33, one clause for each way the pair at the cursor can read, and one for the end of the frame. -/
theorem bitRowsTakeTheirArmOfRxBit : Obligations.BitRowsTakeTheirArmOfRxBit := by
  intro s
  rw [exec_symBit1_rx, exec_symBit0_rx]
  refine ⟨fun p inFrame atCursor reads => ?one, fun p inFrame atCursor reads => ?zero,
    fun inFrame neither => ?neither, fun complete => ?complete⟩
  case one =>
    have arm := rxSymbol_of_readPair inFrame atCursor reads
    refine ⟨⟨rxfAfter true s, by rw [arm, if_pos rfl], fun j => ?_⟩, by rw [arm, if_neg (by decide)]⟩
    rw [rxfAfter_bitAt, Bool.and_true]
  case zero =>
    have arm := rxSymbol_of_readPair inFrame atCursor reads
    exact ⟨by rw [arm, if_neg (by decide)], by rw [arm, if_pos rfl]; rfl⟩
  case neither =>
    have rejects := rxSymbol_of_neither inFrame neither
    exact ⟨by rw [rejects], by rw [rejects]⟩
  case complete =>
    have unchanged := rxSymbol_of_complete complete
    exact ⟨by rw [unchanged], by rw [unchanged]⟩

/-! ### The first bad position -/

section
variable {s t : State}

/-- A scan that has gone on for `n` positions goes on from there. -/
theorem rxBits_add_of_ok {n : Nat} (m : Nat) (h : rxBits n s = .ok t) : rxBits (n + m) s = rxBits m t := by
  induction n generalizing s with
  | zero => rw [Nat.zero_add, Except.ok.inj h]
  | succ n ih =>
    rw [Nat.add_right_comm]
    cases bit : rxBit s with
    | error u => simp [rxBits, bit] at h
    | ok u =>
      simp only [rxBits, bit] at h ⊢
      exact ih h

/-- DESERIALIZE stops at the first position that fails, with the bits before it in RXF and no other. -/
theorem deserialize_of_fails {bits : Nat → Bool} {j : Nat} (inFrame : j < 71) (header : HeaderFirst s)
    (reads : ∀ k, k < j → PositionReads s k (bits k)) (fails : PositionFails s j) :
    ∃ m, deserialize s = .error (setRes ⟨false, .bitMismatch, j⟩ (setRxc (j + 1) (setK j (setRxf m s)))) ∧
      ∀ k, bitAt (layout s).order m k = (decide (k < j) && bits k) := by
  have headerEmptied : rxHeader (setRxf [] s) = .ok (setRxc 1 (setRxf [] s)) := rxHeader_of_headerFirst header
  obtain ⟨m, before, carries⟩ := rxBits_of_reads (s := setK 0 (setRxc 1 (setRxf [] s))) (bits := bits) j rfl
    fun k _ high => reads k (by simpa using high)
  simp only [setK_k, setK_rxc, setRxc_rxc, Nat.zero_add, Nat.add_comm 1 j] at before
  have rejects := rxBit_of_neither (s := setRxc (j + 1) (setK j (setRxf m (setK 0 (setRxc 1 (setRxf [] s)))))) fails
  have scan : rxBits nBits (setK 0 (setRxc 1 (setRxf [] s))) =
      .error (rejectBit (setRxc (j + 1) (setK j (setRxf m (setK 0 (setRxc 1 (setRxf [] s))))))) := by
    rw [show nBits = j + (70 - j + 1) by simp only [nBits]; omega, rxBits_add_of_ok _ before]
    simp only [rxBits, rejects]
  refine ⟨m, ?_, fun k => ?_⟩
  · simp only [deserialize, headerEmptied, scan]
    rfl
  · simpa [bitAt] using carries k

end

/-- Settles O36: what the scan has read before the failing position is in RXF, and the failing pair is not consumed. -/
theorem deserializeRejectsAtTheFirstBadBit : Obligations.DeserializeRejectsAtTheFirstBadBit := by
  intro s bits j inFrame header reads fails
  obtain ⟨m, rejected, carries⟩ := deserialize_of_fails inFrame header reads fails
  exact ⟨m, by rw [exec_deserialize, rejected, ending_error], fun k _ => carries k⟩

/-! ### After a rejection -/

/-- RX_BIT does not read RES: it carries it along, and a rejection writes all of it. -/
theorem rxBit_setRes (r : Result) (s : State) : rxBit (setRes r s) = (rxBit s).map (setRes r) := by
  cases test : rxTest s with
  | none =>
    have neither := rxTest_eq_none_iff.1 test
    rw [rxBit_of_neither neither, rxBit_of_neither (s := setRes r s) neither]
    rfl
  | some read =>
    obtain ⟨p, atCursor, reads⟩ := readPair_of_rxTest (b := read.1) (t := read.2) test
    rw [rxBit_of_readPair atCursor reads, rxBit_of_readPair (s := setRes r s) atCursor reads]
    cases read.1 <;> rfl

theorem rxBits_setRes (n : Nat) (r : Result) (s : State) : rxBits n (setRes r s) = (rxBits n s).map (setRes r) := by
  induction n generalizing s with
  | zero => rfl
  | succ n ih =>
    simp only [rxBits, rxBit_setRes]
    cases rxBit s with
    | error t => rfl
    | ok t => exact ih t

section
variable {s t : State}

theorem res_of_deserialize_ok (h : deserialize s = .ok t) : t.res = success := by
  rcases deserialize_cases s with ⟨m, ends⟩ | ends | ⟨m, j, -, ends⟩ <;> rw [ends] at h <;> cases h
  rfl

/-- A RECEIVE that rejects is a scan and no more: after UNPACK and the publish, RES still says success. -/
theorem scanned_of_receive_rejected (h : exec .receive s = .next t) (notOk : t.res.ok = false) :
    t = scanned t.rxf t.k t.rxc t.res s := by
  rcases exec_receive_cases h with rejected | ⟨u, accepted, rfl⟩
  · exact (deserialize_error rejected).2
  · have ok : (publish (unpack u)).res = success := by
      rw [publish_eq, setPub_res, unpack_eq, setCs_res, setAux_res, setDec_res, res_of_deserialize_ok accepted]
    rw [ok] at notOk
    cases notOk

variable (m : Memory) (k c : Nat) (r : Result)

/-- A header once accepted, DESERIALIZE does not see what an earlier scan left in RXF, the sequencer position, the cursor and
RES: it has written the first three itself, and writes RES at its end. -/
theorem deserialize_scanned (header : HeaderFirst s) : deserialize (scanned m k c r s) = deserialize s := by
  have accepts : rxHeader (setRxf [] s) = .ok (setRxc 1 (setRxf [] s)) := rxHeader_of_headerFirst header
  have acceptsAfter : rxHeader (setRxf [] (scanned m k c r s)) = .ok (setRxc 1 (setRxf [] (scanned m k c r s))) :=
    rxHeader_of_headerFirst header
  have start : setK 0 (setRxc 1 (setRxf [] (scanned m k c r s))) = setRes r (setK 0 (setRxc 1 (setRxf [] s))) := rfl
  simp only [deserialize, accepts, acceptsAfter, start, rxBits_setRes]
  cases rxBits nBits (setK 0 (setRxc 1 (setRxf [] s))) <;> rfl

variable (s)

/-- RECEIVE gives the same after an earlier scan, but for the sequencer position where there is no header. -/
theorem receive_scanned : ∃ u v, exec .receive (scanned m k c r s) = .next u ∧ exec .receive s = .next v ∧
    u.cs = v.cs ∧ u.pub = v.pub ∧ u.res = v.res ∧ u.rxf = v.rxf ∧ u.aux = v.aux := by
  by_cases header : HeaderFirst s
  · obtain ⟨v, received⟩ := exec_receive_next s
    refine ⟨v, v, ?_, received, rfl, rfl, rfl, rfl, rfl⟩
    rwa [exec_receive, execReceive, deserialize_scanned m k c r header]
  · have noHeader : ¬HeaderFirst (scanned m k c r s) := header
    exact ⟨_, _, exec_receive_of_error (deserialize_of_not_headerFirst noHeader),
      exec_receive_of_error (deserialize_of_not_headerFirst header), rfl, rfl, rfl, rfl, rfl⟩

/-- TRANSMIT reads nothing that a scan writes. -/
theorem transmit_scanned : ∃ u v, exec .transmit (scanned m k c r s) = .next u ∧ exec .transmit s = .next v ∧
    u.emit = v.emit ∧ u.cs = v.cs ∧ u.pub = v.pub := by
  refine ⟨_, _, exec_transmit _, exec_transmit s, ?_, ?_, ?_⟩
  · rw [transmit_emit, transmit_emit, transmission_congr (s := scanned m k c r s) (s' := s) rfl rfl]
    rfl
  · simp only [serialize_cs, pack_cs]
    rfl
  · simp only [serialize_pub, pack_pub]
    rfl

theorem handBurst_scanned (l : List (Nat × Nat)) :
    handBurst l (scanned m k c r s) = scanned m k 0 r (handBurst l s) := rfl

end

/-- Settles O51: the rejection leaves a scan behind and no more, and neither operation depends on one. -/
theorem aRejectedBurstIsForgotten : Obligations.ARejectedBurstIsForgotten := by
  intro s t l received notOk
  rw [scanned_of_receive_rejected received notOk, handBurst_scanned]
  exact ⟨receive_scanned .., transmit_scanned ..⟩

end Sys2Proof.Proofs

/-! ## The command port: decode and encode, and the step that runs the decoded instruction

A word's first byte names its format, and each format's rest is decoded by that format's own table. One lemma for each format
says what `decode` does with a word of that format and what every instruction it finds there is like. -/

namespace Sys2Proof.Proofs

open Sys2Proof.Machine

/-! ### Decoding a word of each format -/

section
variable (r : Rev) (d : Dir) (rest : List Byte)

theorem decode_symbolWord (number : Byte) :
    decode (symbolWord d number ++ rest) = orUnknown (symbolInstr d number.toNat) rest := by
  cases d <;> rfl

theorem decode_fieldWord (byte mask code : Byte) :
    decode (fieldWord r d byte mask code ++ rest) = orUnknown (fieldInstr r d byte mask code) rest := by
  cases r <;> cases d <;> rfl

theorem decode_frameWordA (n : BitVec 1) (m : BitVec 8) (t : BitVec 4) (f : BitVec 8) :
    decode ((frameTag .A ||| d.bit) :: frameBytesA n m t f ++ rest) =
      .ok (frameInstrA d (n.setWidth 8) m (t.setWidth 8) f, rest) := by
  cases d <;> rfl

theorem decode_frameWordB (m : BitVec 5) (t : BitVec 4) (z : BitVec 1) (f : BitVec 3) (n : BitVec 1) :
    decode ((frameTag .B ||| d.bit) :: frameBytesB m t z f n ++ rest) =
      .ok (frameInstrB d (m.setWidth 8) (t.setWidth 8 <<< 4)
        (z.setWidth 8 <<< 7 ||| f.setWidth 8 <<< 1 ||| n.setWidth 8), rest) := by
  cases d <;> rfl

theorem decode_frameWordC (m : BitVec 3) (f : BitVec 2) (t : BitVec 4) (n : BitVec 1) (z : BitVec 1) :
    decode ((frameTag .C ||| d.bit) :: frameBytesC m f t n z ++ rest) =
      .ok (frameInstrC d (m.setWidth 8) (f.setWidth 8 <<< 4 ||| t.setWidth 8) (n.setWidth 8) (z.setWidth 8), rest) := by
  cases d <;> rfl

end

/-! ### The fields of a frame are read back from its bytes -/

/-- A field at the low end of its byte is read back (30_encoding.md R62, R67, R72). -/
theorem extractLsb'_setWidth {w : Nat} (v : BitVec w) (hw : w ≤ 8) : (v.setWidth 8).extractLsb' 0 w = v := by
  refine BitVec.eq_of_getLsbD_eq fun i hi => ?_
  simp [hi, show i < 8 by omega]

/-- The never-sent bit of revision A's byte 8 is bit 7: clearing it changes nothing where it is 0. -/
theorem and_0x7F_of_skipped_zero {f : Byte} (skipped : f.getLsbD 7 = false) : f &&& 0x7F = f := by
  refine BitVec.eq_of_getLsbD_eq fun i hi => ?_
  have mask : (0x7F : Byte).getLsbD i = decide (i < 7) := by revert i; decide
  rw [BitVec.getLsbD_and, mask]
  by_cases low : i < 7
  · simp [low]
  · rw [show i = 7 by omega, skipped]; rfl

theorem frameInstrA_frameBytesA (d : Dir) (n : BitVec 1) (m : BitVec 8) (t : BitVec 4) (f : BitVec 8)
    (wf : (Instr.frameA d n m t f).WellFormed) :
    frameInstrA d (n.setWidth 8) m (t.setWidth 8) f = .frameA d n m t f := by
  unfold frameInstrA
  rw [extractLsb'_setWidth n (by decide), extractLsb'_setWidth t (by decide)]
  cases d with
  | tx => rfl
  | rx => simp only [and_0x7F_of_skipped_zero wf]

/-- Byte 8 of revision B holds three fields and byte 1 of revision C two; each is read back from its bits. -/
theorem extract_frameByteB8 (z : BitVec 1) (f : BitVec 3) (n : BitVec 1) (v : Byte)
    (hv : v = z.setWidth 8 <<< 7 ||| f.setWidth 8 <<< 1 ||| n.setWidth 8) :
    v.extractLsb' 7 1 = z ∧ v.extractLsb' 1 3 = f ∧ v.extractLsb' 0 1 = n := by
  subst hv
  revert z f n
  decide

theorem frameInstrB_frameBytesB (d : Dir) (m : BitVec 5) (t : BitVec 4) (z : BitVec 1) (f : BitVec 3) (n : BitVec 1)
    (wf : (Instr.frameB d m t z f n).WellFormed) :
    frameInstrB d (m.setWidth 8) (t.setWidth 8 <<< 4) (z.setWidth 8 <<< 7 ||| f.setWidth 8 <<< 1 ||| n.setWidth 8) =
      .frameB d m t z f n := by
  have high : (t.setWidth 8 <<< 4).extractLsb' 4 4 = t := by clear wf; revert t; decide
  obtain ⟨skipped, fan, night⟩ := extract_frameByteB8 z f n _ rfl
  unfold frameInstrB
  rw [extractLsb'_setWidth m (by decide), high, skipped, fan, night]
  cases d with
  | tx => rfl
  | rx => rw [show z = 0 from wf]

theorem extract_frameByteC1 (f : BitVec 2) (t : BitVec 4) (v : Byte) (hv : v = f.setWidth 8 <<< 4 ||| t.setWidth 8) :
    v.extractLsb' 4 2 = f ∧ v.extractLsb' 0 4 = t := by
  subst hv
  revert f t
  decide

theorem frameInstrC_frameBytesC (d : Dir) (m : BitVec 3) (f : BitVec 2) (t : BitVec 4) (n : BitVec 1) (z : BitVec 1)
    (wf : (Instr.frameC d m f t n z).WellFormed) :
    frameInstrC d (m.setWidth 8) (f.setWidth 8 <<< 4 ||| t.setWidth 8) (n.setWidth 8) (z.setWidth 8) =
      .frameC d m f t n z := by
  obtain ⟨fan, temp⟩ := extract_frameByteC1 f t _ rfl
  unfold frameInstrC
  rw [extractLsb'_setWidth m (by decide), fan, temp, extractLsb'_setWidth n (by decide),
    extractLsb'_setWidth z (by decide)]
  cases d with
  | tx => rfl
  | rx => rw [show z = 0 from wf]

/-- Settles O5: each row's word is one of its format, and that format's table or fields give the row back. -/
theorem decodeOfEncodeIsTheInstruction : Obligations.DecodeOfEncodeIsTheInstruction := by
  intro i rest wf
  cases i with
  | frameA d n m t f => exact (decode_frameWordA ..).trans (by rw [frameInstrA_frameBytesA d n m t f wf])
  | frameB d m t z f n => exact (decode_frameWordB ..).trans (by rw [frameInstrB_frameBytesB d m t z f n wf])
  | frameC d m f t n z => exact (decode_frameWordC ..).trans (by rw [frameInstrC_frameBytesC d m f t n z wf])
  | symHeader d | symBit1 d | symBit0 d | symFinal d | symGap d => exact decode_symbolWord ..
  | aModeOff d | aModeAuto d | aModeDry d | aModeCool d | aModeFanOnly d | aTemp d
  | aFanAuto d | aFanLow d | aFanMedium d | aFanHigh d | aNightNone d | aNightSleep d
  | bModeOff d | bModeAuto d | bModeCool d | bModeDry d | bModeFanOnly d | bModeHeat d | bTemp d
  | bFanAuto d | bFanLow d | bFanMedium d | bFanHigh d | bNightNone d | bNightSleep d
  | cModeOff d | cModeCool d | cModeDry d | cModeFanOnly d | cModeHeat d | cModeAuto d | cTemp d
  | cFanLow d | cFanMedium d | cFanHigh d | cFanAuto d | cNightNone d | cNightSleep d => exact decode_fieldWord ..
  | pack | serialize | transmit | deserialize | unpack | receive | unassigned011 | unassigned111
  | reasonNone | reasonHeaderMismatch | reasonBitMismatch => rfl

/-! ### What the decoder finds -/

/-- A well-formed instruction whose word has `n` bytes. -/
def DecodedFrom (n : Nat) (i : Instr) : Prop := i.WellFormed ∧ (encode i).length = n

theorem opInstr_decodedFrom (code : BitVec 3) : DecodedFrom 1 (opInstr code) := by
  unfold opInstr
  split <;> exact ⟨trivial, rfl⟩

section
variable {i : Instr} {d : Dir}

theorem reasonInstr_decodedFrom {code : BitVec 2} (h : reasonInstr code = some i) : DecodedFrom 1 i := by
  unfold reasonInstr at h
  split at h <;> cases h <;> exact ⟨trivial, rfl⟩

theorem symbolInstr_decodedFrom {number : Nat} (h : symbolInstr d number = some i) : DecodedFrom 2 i := by
  unfold symbolInstr at h
  split at h <;> cases h <;> exact ⟨trivial, rfl⟩

theorem fieldInstr_decodedFrom {r : Rev} {byte mask code : Byte} (h : fieldInstr r d byte mask code = some i) :
    DecodedFrom 4 i := by
  cases r
  all_goals
    simp only [fieldInstr, fieldInstrA, fieldInstrB, fieldInstrC] at h
    split at h <;> cases h <;> exact ⟨trivial, rfl⟩

theorem frameInstrA_decodedFrom (d : Dir) (b5 b6 b7 b8 : Byte) : DecodedFrom 10 (frameInstrA d b5 b6 b7 b8) := by
  cases d with
  | tx => exact ⟨trivial, rfl⟩
  | rx =>
    have skipped : (b8 &&& 0x7F).getLsbD 7 = false := by rw [BitVec.getLsbD_and]; exact Bool.and_false _
    exact ⟨skipped, rfl⟩

theorem frameInstrB_decodedFrom (d : Dir) (b6 b7 b8 : Byte) : DecodedFrom 10 (frameInstrB d b6 b7 b8) := by
  cases d with
  | tx => exact ⟨trivial, rfl⟩
  | rx => exact ⟨rfl, rfl⟩

theorem frameInstrC_decodedFrom (d : Dir) (b0 b1 b2 b8 : Byte) : DecodedFrom 10 (frameInstrC d b0 b1 b2 b8) := by
  cases d with
  | tx => exact ⟨trivial, rfl⟩
  | rx => exact ⟨rfl, rfl⟩

theorem orUnknown_ok {found : Option Instr} {left rest : List Byte} (h : orUnknown found left = .ok (i, rest)) :
    found = some i ∧ left = rest := by
  cases found with
  | none => cases h
  | some j => cases h; exact ⟨rfl, rfl⟩

/-- After its first byte a word of any format is taken up to the length of its encoding, and no further. -/
theorem decodeFormat_ok {f : Format} {bytes rest : List Byte} (h : decodeFormat f bytes = .ok (i, rest)) :
    ∃ used, bytes = used ++ rest ∧ DecodedFrom (used.length + 1) i := by
  cases f with
  | op code =>
    cases h
    exact ⟨[], rfl, opInstr_decodedFrom code⟩
  | reason code =>
    obtain ⟨found, rfl⟩ := orUnknown_ok h
    exact ⟨[], rfl, reasonInstr_decodedFrom found⟩
  | symbol d =>
    simp only [decodeFormat] at h
    split at h
    next number left =>
      obtain ⟨found, rfl⟩ := orUnknown_ok h
      exact ⟨[number], rfl, symbolInstr_decodedFrom found⟩
    next => cases h
  | field r d =>
    simp only [decodeFormat] at h
    split at h
    next byte mask code left =>
      obtain ⟨found, rfl⟩ := orUnknown_ok h
      exact ⟨[byte, mask, code], rfl, fieldInstr_decodedFrom found⟩
    next => cases h
  | frame r d =>
    simp only [decodeFormat] at h
    split at h
    next b0 b1 b2 b3 b4 b5 b6 b7 b8 left =>
      refine ⟨[b0, b1, b2, b3, b4, b5, b6, b7, b8], ?_⟩
      cases r with
      | A => cases h; exact ⟨rfl, frameInstrA_decodedFrom d b5 b6 b7 b8⟩
      | B => cases h; exact ⟨rfl, frameInstrB_decodedFrom d b6 b7 b8⟩
      | C => cases h; exact ⟨rfl, frameInstrC_decodedFrom d b0 b1 b2 b8⟩
    next => cases h

end

/-- Settles O6: the first byte and what its format takes are the part of the word that was used. -/
theorem decodedInstructionsAreWellFormedAndExact : Obligations.DecodedInstructionsAreWellFormedAndExact := by
  intro bytes i rest h
  cases bytes with
  | nil => cases h
  | cons tag after =>
    simp only [decode] at h
    split at h
    next f _ =>
      obtain ⟨used, rfl, wf, length⟩ := decodeFormat_ok h
      exact ⟨wf, tag :: used, rfl, length.symm⟩
    next => cases h

/-! ### The step on a command word -/

theorem fetchInstr_of_ok {word left : List Byte} {i : Instr} (h : decode word = .ok (i, left)) :
    fetchInstr word = some i := by rw [fetchInstr, h]

theorem fetchInstr_of_error {word : List Byte} {e : DecodeError} (h : decode word = .error e) :
    fetchInstr word = none := by rw [fetchInstr, h]

/-- Settles O3, from the equations of a step and the well-formedness of what decodes. -/
theorem stepRunsTheDecodedInstruction : Obligations.StepRunsTheDecodedInstruction := by
  refine fun s word rest waiting => ⟨fun i left decoded => ?runs, fun e failed => ?refuses⟩
  case runs =>
    obtain ⟨wf, -⟩ := decodedInstructionsAreWellFormedAndExact word i left decoded
    exact ⟨wf, step_command waiting (fetchInstr_of_ok decoded)⟩
  case refuses => exact step_command_refused waiting (fetchInstr_of_error failed)

/-- Settles O4: each word is closed, and `decode` computes. -/
theorem tableWordsDecodeToTheirRows : Obligations.TableWordsDecodeToTheirRows :=
  ⟨rfl, rfl, rfl, rfl, rfl, rfl, rfl, rfl, rfl, rfl, rfl, rfl, rfl, rfl, rfl, rfl, rfl, rfl⟩

/-- Settles O7: the arms of the two codes refuse without looking at the state. -/
theorem unassignedCodesAreRefused : Obligations.UnassignedCodesAreRefused := fun _ => ⟨rfl, rfl⟩

end Sys2Proof.Proofs

/-! ## The round trip: RECEIVE of TRANSMIT

Under WF each region of the frame holds its field's bits and nothing else, and each field's lookup gives back the value whose
bits it finds. The scan of the burst stores the 71 bits sent, and the never-sent bit of a frame is 0, so RXF becomes the very
buffer that PACK made. -/

namespace Sys2Proof.Proofs

open Sys2Proof.Machine

/-! ### The lookup of the fan -/

section
variable {L : Layout} {f f' : Fan} {v : Byte}

/-- The fans of the codes in `FanCodes.list`, in the same order. -/
def listedFans : List Fan := [.auto, .low, .medium, .high]

theorem mem_listedFans (f : Fan) : f ∈ listedFans := by cases f <;> decide

theorem map_fanCode_listedFans (L : Layout) : listedFans.map (fanCode L) = L.fanCodes.list := rfl

/-- Two fans with the same code are the same fan (30_encoding.md R79 (c)). -/
theorem fanCode_inj (wf : L.WfFans) (same : fanCode L f = fanCode L f') : f = f' := by
  obtain ⟨distinct, -⟩ := wf
  rw [← map_fanCode_listedFans] at distinct
  exact List.inj_on_of_nodup_map distinct (mem_listedFans f) (mem_listedFans f') same

/-- What the lookup finds: nothing where no fan has the code, else a fan that has it (43_unpack.md R199). -/
theorem fanOf_cases (r : Rev) (L : Layout) (v : Byte) :
    (fanOf r L v = none ∧ ∀ f, fanCode L f ≠ v) ∨ ∃ f, fanOf r L v = some f ∧ fanCode L f = v := by
  unfold fanOf
  cases found : (fanArms r).find? fun f => decide (fanCode L f = v) with
  | none => exact .inl ⟨rfl, fun f code => List.find?_eq_none.1 found f (mem_fanArms r f) (decide_eq_true code)⟩
  | some f =>
    have hasCode := List.find?_some found
    exact .inr ⟨f, rfl, of_decide_eq_true hasCode⟩

theorem fanOf_fanCode (r : Rev) (wf : L.WfFans) (f : Fan) : fanOf r L (fanCode L f) = some f := by
  rcases fanOf_cases r L (fanCode L f) with ⟨-, noCode⟩ | ⟨f', found, code⟩
  · exact absurd rfl (noCode f)
  · rw [found, fanCode_inj wf code]

end

/-! ### The fields of a frame are decoded back -/

section
variable {r : Rev} {L : Layout} {m : Mode}

/-- Under WF every supported mode has a code, and it is what PACK writes (30_encoding.md R79 (h)). -/
theorem modeCode_eq_modeBits (wf : L.WF r) (supported : Supported r m) : modeCode r L m = some (modeBits r L m) := by
  cases m with
  | off | cool | dry | fanOnly | auto => rfl
  | heat =>
    have settled := wf.settled
    cases r with
    | A => exact absurd ⟨rfl, rfl⟩ supported
    | B =>
      obtain ⟨-, -, heat⟩ := settled
      obtain ⟨v, hv⟩ := Option.isSome_iff_exists.1 heat
      simp [modeBits, modeCode, hv]
    | C =>
      obtain ⟨-, -, -, -, heat⟩ := settled
      obtain ⟨v, hv⟩ := Option.isSome_iff_exists.1 heat
      simp [modeBits, modeCode, hv]

/-- The code of OFF is that of no other mode (30_encoding.md R79 (b)). -/
theorem modeCode_ne_zero (wf : L.WfModes) (notOff : m ≠ .off) : modeCode r L m ≠ some 0 := fun code =>
  (wf.2 0 (List.mem_of_getElem? (modeCode_listed notOff code))).1 rfl

theorem modeOf_modeBits (wf : L.WF r) (supported : Supported r m) : modeOf r L (modeBits r L m) = m := by
  have code := modeCode_eq_modeBits wf supported
  rcases modeOf_cases r L (modeBits r L m) with ⟨off, noCode⟩ | ⟨notOff, found⟩
  · by_cases isOff : m = .off
    · rw [off, isOff]
    · exact absurd code (noCode m isOff)
  · by_cases isOff : m = .off
    · subst isOff
      exact absurd found (modeCode_ne_zero wf.modes notOff)
    · exact modeCode_inj wf.modes notOff isOff found code

/-- The four bits of the temperature field are those under TEMP_MASK, moved down (30_encoding.md R80). -/
theorem tempField_of_masked (L : Layout) (v : Byte) :
    (v >>> L.tempShift) &&& 0x0F = (v &&& L.tempMask) >>> L.tempShift := by
  refine BitVec.eq_of_getLsbD_eq fun i hi => ?_
  simp only [Layout.tempMask, BitVec.getLsbD_and, BitVec.getLsbD_ushiftRight, BitVec.getLsbD_shiftLeft,
    Nat.add_sub_cancel_left, Nat.not_lt.2 (Nat.le_add_right _ _), decide_false, Bool.not_false, Bool.and_true]
  by_cases inByte : L.tempShift + i < 8
  · simp [inByte]
  · simp [inByte, BitVec.getLsbD_of_ge v _ (Nat.not_lt.1 inByte)]

theorem tempBits_ushiftRight (wf : L.WfTemp) {t : Int} (low : 15 ≤ t) (high : t ≤ 30) :
    tempBits L t >>> L.tempShift = tempField t := by
  have value := tempField_toNat low (by omega)
  refine BitVec.eq_of_toNat_eq ?_
  rw [tempBits, BitVec.toNat_ushiftRight, toNat_shiftLeft_of_le_fifteen (by omega) wf, Nat.shiftRight_eq_div_pow,
    Nat.mul_div_cancel _ (Nat.two_pow_pos _)]

/-- A temperature in its domain is decoded back from its field. -/
theorem tempOf_of_masked (wf : L.WfTemp) {t : Int} (low : 18 ≤ t) (high : t ≤ 30) {v : Byte}
    (holds : v &&& L.tempMask = tempBits L t) : tempOf L v = t := by
  rw [tempOf, tempField_of_masked, holds, tempBits_ushiftRight wf (by omega) high,
    tempField_toNat (by omega) (by omega)]
  unfold tempOff clampTemp clamp tempMin tempMax
  rw [if_neg (by omega), if_neg (by omega)]
  omega

theorem presetOf_presetBits (wf : L.WfNight) (p : Preset) : presetOf (presetBits L p) = p := by
  have bitSet : L.nightMask ≠ 0 := by
    obtain ⟨i, hi⟩ := wf
    rw [hi]
    clear hi
    revert i
    decide
  cases p with
  | none => rfl
  | sleep => exact if_pos bitSet

end

section
variable (r : Rev) (c : Climate)

/-- The temperature that comes back is the one that was sent. -/
theorem returned_temp : (returned r c).temp = sentTemp r c := by
  cases r with
  | A => simp [returned, sentTemp, tempDryA, clampTemp, tempMin, tempMax]
  | B | C => rfl

theorem returned_fan : (returned r c).fan = sentFan r c := by
  cases r with
  | A | B => rfl
  | C => simp [returned, sentFan]

end

/-- UNPACK of a frame that PACK makes of `c` gives `c` back, but for the three exceptions (43_unpack.md R200). -/
theorem decoded_of_frame {r : Rev} {s : State} {c : Climate} (wf : (s.build.layout.get r).WF r)
    (supported : Supported r c.mode)
    (frame : ∀ j, readByte s.rxf j = overlay (frameFields r (s.build.layout.get r) c) j) :
    decoded r s = returned r c := by
  obtain ⟨mode, temp, fan, night⟩ := forall_mem_frameFields.1 (frame_and_mask wf c)
  obtain ⟨low, high⟩ := sentTemp_mem r c
  simp only [← frame] at mode temp fan night
  have rxModeEq : rxMode r s = c.mode := by rw [rxMode, rxField, mode, modeOf_modeBits wf supported]
  have rxTempEq : rxTemp r s = sentTemp r c := tempOf_of_masked wf.temp low high temp
  have rxFanEq : rxFan r s = some (sentFan r c) := by rw [rxFan, rxField, fan, fanOf_fanCode r wf.fans]
  have rxPresetEq : rxPreset r s = c.preset := by rw [rxPreset, rxField, night, presetOf_presetBits wf.night]
  rw [decoded, rxModeEq, rxTempEq, rxFanEq, rxPresetEq, Option.getD_some, ← returned_temp, ← returned_fan]
  rfl

/-! ### A frame buffer is its 72 bits -/

theorem bitIdx_bitIdx (o : BitOrder) {i : Nat} (hi : i < 8) : bitIdx o (bitIdx o i) = i := by
  cases o <;> simp only [bitIdx]; omega

/-- The positions of byte `j` are `8 j` to `8 j + 7` (20_memory.md R45). -/
theorem bitAt_slot (o : BitOrder) (m : Memory) (j : Nat) {slot : Nat} (hslot : slot < 8) :
    bitAt o m (8 * j + slot) = (readByte m j).getLsbD (bitIdx o slot) := by
  rw [bitAt, show (8 * j + slot) / 8 = j by omega, show (8 * j + slot) % 8 = slot by omega]

/-- Every bit of a byte has a position (20_memory.md R44). -/
theorem getLsbD_readByte (o : BitOrder) (m : Memory) (j : Nat) {i : Nat} (hi : i < 8) :
    (readByte m j).getLsbD i = bitAt o m (8 * j + bitIdx o i) := by
  rw [bitAt_slot o m j (bitIdx_lt o hi), bitIdx_bitIdx o hi]

theorem readByte_eq_zero {m : Memory} {j : Nat} (unlisted : ∀ p ∈ m, p.1 ≠ j) : readByte m j = 0 := by
  induction m with
  | nil => rfl
  | cons p m ih =>
    obtain ⟨here, later⟩ := List.forall_mem_cons.1 unlisted
    rw [readByte, if_neg here, ih later]

/-- Outside its nine bytes a canonical buffer lists nothing. -/
theorem readByte_of_nine_le {m : Memory} (wf : Memory.wf m = true) {j : Nat} (hj : 9 ≤ j) : readByte m j = 0 := by
  obtain ⟨-, inFrame⟩ := (Memory.wf_iff m).1 wf
  refine readByte_eq_zero fun p hp => ?_
  have := (inFrame p hp).1
  omega

/-- Two canonical buffers that carry the same bits at the 72 positions are the same. -/
theorem memory_eq_of_bits (o : BitOrder) {m n : Memory} (hm : Memory.wf m = true) (hn : Memory.wf n = true)
    (bits : ∀ k, k < 72 → bitAt o m k = bitAt o n k) : m = n := by
  refine memory_ext hm hn fun j => ?_
  by_cases inFrame : j < 9
  · refine BitVec.eq_of_getLsbD_eq fun i hi => ?_
    have slot := bitIdx_lt o hi
    rw [getLsbD_readByte o m j hi, getLsbD_readByte o n j hi, bits _ (by omega)]
  · rw [readByte_of_nine_le hm (by omega), readByte_of_nine_le hn (by omega)]

/-- Settles O27, slot by slot. -/
theorem bitOfAPositionByOrder : Obligations.BitOfAPositionByOrder := by
  intro m byte slot hslot
  rw [bitAt_slot .lsb m byte hslot, bitAt_slot .msb m byte hslot]
  refine ⟨rfl, ?_⟩
  rw [BitVec.getMsbD, decide_eq_true hslot]
  rfl

/-! ### RECEIVE of TRANSMIT -/

/-- DESERIALIZE of a TRANSMIT fills RXF with the buffer PACK made, whatever CS holds by then. -/
theorem deserialize_of_transmit {s : State} (usable : BuildUsable s.build) (idle : Nat) (prior : Climate) :
    deserialize (setCs prior (loopBack idle (serialize (pack s)))) =
      .ok (scanned (pack s).txf 71 72 success (setCs prior (loopBack idle (serialize (pack s))))) := by
  have timingUsable : TimingUsable (timing (pack s)) (pack s).build.tol := by
    rw [timing, pack_build]
    exact usable.timing
  have header : HeaderFirst (setCs prior (loopBack idle (serialize (pack s)))) :=
    headerFirst_loopBack_serialize timingUsable
  obtain ⟨m, accepted, carries⟩ := deserialize_of_reads header fun _ => positionReads_loopBack_serialize timingUsable
  have canonical := deserialize_wf (setCs prior (loopBack idle (serialize (pack s))))
  rw [accepted] at canonical
  rw [setCs_layout, loopBack_serialize_layout] at carries
  have skipped : bitAt (layout (pack s)).order (pack s).txf 71 = false := by
    rw [layout, pack_build]
    exact bitAt_71_of_skippedMask (by rw [readByte_pack]; exact frame_skipped usable.layout s.cs)
  have sameBuffer : m = (pack s).txf := by
    refine memory_eq_of_bits (layout (pack s)).order canonical (pack_wf s) fun k hk => ?_
    rw [carries]
    rcases Nat.lt_succ_iff_lt_or_eq.1 hk with sent | rfl
    · simp [sent]
    · simp [skipped]
  rw [accepted, sameBuffer]
  rfl

/-- Settles O52: RXF becomes the frame that PACK made, and UNPACK decodes its fields back. -/
theorem receiveOfTransmitGivesTheStateBack : Obligations.ReceiveOfTransmitGivesTheStateBack := by
  intro s idle prior usable supported
  have received := exec_receive_of_ok (deserialize_of_transmit usable idle prior)
  have build : (setCs prior (loopBack idle (serialize (pack s)))).build = s.build := by simp
  refine ⟨serialize (pack s), _, exec_transmit s, received, ?_⟩
  generalize handed : setCs prior (loopBack idle (serialize (pack s))) = h at build received ⊢
  have back : decoded s.build.rev (scanned (pack s).txf 71 72 success h) = returned s.build.rev s.cs := by
    refine decoded_of_frame ?_ supported fun j => ?_
    · exact build ▸ usable.layout
    · show readByte (pack s).txf j = overlay (frameFields s.build.rev (h.build.layout.get s.build.rev) s.cs) j
      rw [build]
      exact readByte_pack s j
  have cs : (unpack (scanned (pack s).txf 71 72 success h)).cs = returned s.build.rev s.cs := by
    rw [unpack_cs, ← back, ← build]
    rfl
  have pub : h.pub = s.pub := by
    rw [← handed]
    simp [loopBack]
  refine ⟨cs, ?_, ?_⟩
  · rw [publish_eq, setPub_pub, unpack_pub, cs, ← pub]
    rfl
  · rw [publish_eq, setPub_res, unpack_eq]
    rfl

end Sys2Proof.Proofs

/-! ## What SERIALIZE commits

The items of a transmission are a function of the 71 bits sent. Each fact about them (the list the rules write out, the number of
items, the alternation, the sum of durations) is proved of `n` data bits by induction, then of a round, then of the rounds. -/

namespace Sys2Proof.Proofs

open Sys2Proof.Machine

section
variable (T : Timing) (o : BitOrder) (m : Memory) (n k : Nat)

/-! ### The data bits of a round -/

/-- The items of the data bits, position by position (30_encoding.md R82). -/
theorem bitItems_eq_flatMap : bitItems T o m n k = (List.range' k n).flatMap fun j =>
    [.mark T.bitMark, .space (if bitAt o m j then T.oneSpace else T.zeroSpace)] := by
  have space (b : Bool) : bitSpace T b = if b then T.oneSpace else T.zeroSpace := by cases b <;> rfl
  induction n generalizing k with
  | zero => rfl
  | succ n ih => rw [bitItems, ih, space, List.range'_succ, List.flatMap_cons]

/-- The items depend on the bits of their positions alone (41_serialize.md R145). -/
theorem bitItems_congr {m' : Memory} (same : ∀ j, j < k + n → bitAt o m j = bitAt o m' j) :
    bitItems T o m n k = bitItems T o m' n k := by
  induction n generalizing k with
  | zero => rfl
  | succ n ih => rw [bitItems, bitItems, same k (by omega), ih (k + 1) fun j hj => same j (by omega)]

theorem length_bitItems : (bitItems T o m n k).length = 2 * n := by
  induction n generalizing k with
  | zero => rfl
  | succ n ih => rw [bitItems, List.length_append, ih, List.length_cons, List.length_singleton]; omega

/-- A bit is a mark and a space, so what follows the bits goes on as if it stood alone. -/
theorem alternates_bitItems_append (rest : List Item) :
    alternates (bitItems T o m n k ++ rest) = alternates rest := by
  induction n generalizing k with
  | zero => rfl
  | succ n ih => exact ih (k + 1)

theorem totalDuration_append (l l' : List Item) : totalDuration (l ++ l') = totalDuration l + totalDuration l' := by
  rw [totalDuration, List.map_append, List.sum_append]
  rfl

/-- Each bit lasts BIT_MARK and the space of its value (41_serialize.md R149 (e)). -/
theorem totalDuration_bitItems : totalDuration (bitItems T o m n k) =
    n * T.bitMark + (List.range' k n).countP (bitAt o m) * T.oneSpace +
      (n - (List.range' k n).countP (bitAt o m)) * T.zeroSpace := by
  induction n generalizing k with
  | zero => simp [bitItems, totalDuration]
  | succ n ih =>
    have later : (List.range' (k + 1) n).countP (bitAt o m) ≤ n := by
      simpa using List.countP_le_length (p := bitAt o m) (l := List.range' (k + 1) n)
    rw [bitItems, totalDuration_append, ih, List.range'_succ, List.countP_cons]
    generalize (List.range' (k + 1) n).countP (bitAt o m) = ones at later ⊢
    cases bitAt o m k with
    | true =>
      rw [if_pos rfl, Nat.add_sub_add_right]
      simp only [totalDuration, bitSpace, Item.duration, List.map, List.sum_cons, List.sum_nil]
      ring
    | false =>
      rw [if_neg Bool.false_ne_true, show n + 1 - (ones + 0) = n - ones + 1 by omega]
      simp only [totalDuration, bitSpace, Item.duration, List.map, List.sum_cons, List.sum_nil]
      ring

end

/-! ### A round -/

section
variable (T : Timing) (o : BitOrder) (m : Memory)

theorem roundItems_eq : roundItems T o m =
    [.mark T.hdrMark, .space T.hdrSpace] ++ bitItems T o m 71 0 ++ [.mark T.finalMark] := by
  rw [bitItems_eq_flatMap, ← List.range_eq_range']
  rfl

theorem roundItems_congr {m' : Memory} (same : ∀ k, k < 71 → bitAt o m k = bitAt o m' k) :
    roundItems T o m = roundItems T o m' := by
  rw [roundItems_eq, roundItems_eq, bitItems_congr T o m 71 0 fun j hj => same j (by omega)]

theorem length_roundItems : (roundItems T o m).length = 145 := by
  rw [roundItems_eq, List.length_append, List.length_append, length_bitItems]
  rfl

theorem alternates_roundItems_append (rest : List Item) :
    alternates (roundItems T o m ++ rest) = alternates (.mark T.finalMark :: rest) := by
  rw [roundItems_eq, List.append_assoc, List.append_assoc]
  exact alternates_bitItems_append T o m 71 0 (.mark T.finalMark :: rest)

theorem totalDuration_roundItems : totalDuration (roundItems T o m) =
    T.hdrMark + T.hdrSpace + 71 * T.bitMark + onesSent o m * T.oneSpace + (71 - onesSent o m) * T.zeroSpace +
      T.finalMark := by
  rw [roundItems_eq, totalDuration_append, totalDuration_append, totalDuration_bitItems, ← List.range_eq_range']
  simp only [totalDuration, onesSent, Item.duration, List.map, List.sum_cons, List.sum_nil]
  ring

end

/-! ### The rounds of a transmission -/

section
variable (T : Timing) (L : Layout) (m : Memory)

theorem roundOf_eq (rd : Nat) : roundOf T L m rd =
    roundItems T L.order m ++ if rd < roundCount L.rounds then [.space T.gap] else [] := by
  rw [roundItems_eq]
  rfl

/-- The items of the model's rounds are those that 30_encoding.md R82 writes out. -/
theorem itemsOf_eq_transmissionItems : itemsOf T L m = transmissionItems T L m := by
  unfold itemsOf transmissionItems
  cases rounds : L.rounds <;> simp [roundOf_eq, rounds, roundCount]

theorem itemsOf_congr {m' : Memory} (same : ∀ k, k < 71 → bitAt L.order m k = bitAt L.order m' k) :
    itemsOf T L m = itemsOf T L m' := by
  rw [itemsOf_eq_transmissionItems, itemsOf_eq_transmissionItems, transmissionItems, transmissionItems,
    roundItems_congr T L.order m same]

theorem length_itemsOf : (itemsOf T L m).length = itemCount L.rounds := by
  rw [itemsOf_eq_transmissionItems, transmissionItems]
  cases L.rounds with
  | one => exact length_roundItems T L.order m
  | two => rw [List.length_append, List.length_append, length_roundItems]; rfl

theorem alternates_itemsOf : alternates (itemsOf T L m) = true := by
  have round : alternates (roundItems T L.order m) = true := by
    rw [← List.append_nil (roundItems T L.order m), alternates_roundItems_append]
    rfl
  rw [itemsOf_eq_transmissionItems, transmissionItems]
  cases L.rounds with
  | one => exact round
  | two => rw [List.append_assoc, alternates_roundItems_append]; exact round

theorem totalDuration_itemsOf_one (one : L.rounds = .one) :
    totalDuration (itemsOf T L m) = totalDuration (roundItems T L.order m) := by
  rw [itemsOf_eq_transmissionItems, transmissionItems, one]

theorem totalDuration_itemsOf_two (two : L.rounds = .two) : totalDuration (itemsOf T L m) =
    totalDuration (roundItems T L.order m) + T.gap + totalDuration (roundItems T L.order m) := by
  have gap : totalDuration [.space T.gap] = T.gap := rfl
  rw [itemsOf_eq_transmissionItems, transmissionItems, two]
  simp only [totalDuration_append, gap]

/-- What SERIALIZE appends to EMIT is shaped as 41_serialize.md R149 (a), (b) say. -/
theorem shaped_itemsOf : Emission.Shaped ⟨38000, itemsOf T L m⟩ where
  carrier := rfl
  alternates := alternates_itemsOf T L m
  length := by
    rw [length_itemsOf]
    cases L.rounds with
    | one => exact .inl rfl
    | two => exact .inr rfl

end

/-! ### The statements -/

/-- Settles O26: the updates SERIALIZE is, with its items as the rules write them out. -/
theorem serializeCommitsTheRounds : Obligations.SerializeCommitsTheRounds := by
  intro s
  rw [exec_serialize, serialize_eq, itemsOf_eq_transmissionItems]
  cases rounds : (layout s).rounds <;> rfl

/-- Settles O28, from the length, the alternation and the durations of a transmission. -/
theorem committedSequencesAreShaped : Obligations.CommittedSequencesAreShaped := by
  intro s
  refine ⟨serialize s, _, exec_serialize s, serialize_emit s, length_itemsOf .., alternates_itemsOf .., ?_⟩
  rintro round rfl
  have roundLasts := totalDuration_roundItems (timing s) (layout s).order s.txf
  cases rounds : (layout s).rounds with
  | one => exact (totalDuration_itemsOf_one _ _ _ rounds).trans roundLasts
  | two => exact (totalDuration_itemsOf_two _ _ _ rounds).trans (by rw [roundLasts])

/-- Settles O29: the items are read off the positions 0 to 70 alone. -/
theorem skippedBitIsNotSent : Obligations.SkippedBitIsNotSent := by
  intro s m same
  have items := itemsOf_congr (timing s) (layout s) m same
  refine ⟨serialize s, serialize (setTxf m s), exec_serialize s, exec_serialize _, ?_, ?_⟩
  · rw [serialize_eq, serialize_eq (setTxf m s)]
    exact items.symm
  · rw [serialize_emit, serialize_emit]
    exact congrArg (fun l => s.emit ++ [⟨38000, l⟩]) items.symm

end Sys2Proof.Proofs

/-! ## How a scan of a burst can end, and what it reads

A burst begins with no header, or fails first at some data position, or reads throughout; each way has its own result. A scan
reads the build, the burst and what it has itself written, so further pairs and the rest of the state do not matter to it. -/

namespace Sys2Proof.Proofs

open Sys2Proof.Machine Sys2Proof.Claims

/-! ### The three kinds of burst -/

section
variable (s : State)

theorem positionReads_or_fails (k : Nat) : (∃ b, PositionReads s k b) ∨ PositionFails s k := by
  by_cases fails : PositionFails s k
  · exact .inr fails
  · obtain ⟨p, atPosition, readsSome⟩ := not_forall₂.1 fails
    obtain ⟨b, reads⟩ := Option.ne_none_iff_exists'.1 readsSome
    exact .inl ⟨b, p, atPosition, reads⟩

/-- Either the first `n` positions all read, or one of them is the first that fails. -/
theorem reads_or_firstFailing (n : Nat) : (∀ k, k < n → ∃ b, PositionReads s k b) ∨
    ∃ j, j < n ∧ PositionFails s j ∧ ∀ k, k < j → ∃ b, PositionReads s k b := by
  induction n with
  | zero => exact .inl fun k hk => absurd hk (Nat.not_lt_zero k)
  | succ n ih =>
    rcases ih with reads | ⟨j, hj, fails, before⟩
    · rcases positionReads_or_fails s n with readsLast | failsLast
      · refine .inl fun k hk => ?_
        rcases Nat.lt_succ_iff_lt_or_eq.1 hk with earlier | rfl
        · exact reads k earlier
        · exact readsLast
      · exact .inr ⟨n, Nat.lt_succ_self n, failsLast, reads⟩
    · exact .inr ⟨j, Nat.lt_succ_of_lt hj, fails, before⟩

variable {s}

theorem exists_bits {n : Nat} (reads : ∀ k, k < n → ∃ b, PositionReads s k b) :
    ∃ bits : Nat → Bool, ∀ k, k < n → PositionReads s k (bits k) := by
  choose! bits readsBits using reads
  exact ⟨bits, readsBits⟩

theorem deserialize_of_allRead (header : HeaderFirst s) (reads : ∀ k, k < 71 → ∃ b, PositionReads s k b) :
    ∃ m, deserialize s = .ok (scanned m 71 72 success s) := by
  obtain ⟨bits, readsBits⟩ := exists_bits reads
  obtain ⟨m, accepted, -⟩ := deserialize_of_reads header readsBits
  exact ⟨m, accepted⟩

theorem deserialize_of_firstFailing {j : Nat} (hj : j < 71) (header : HeaderFirst s) (fails : PositionFails s j)
    (before : ∀ k, k < j → ∃ b, PositionReads s k b) :
    ∃ m, deserialize s = .error (scanned m j (j + 1) ⟨false, .bitMismatch, j⟩ s) := by
  obtain ⟨bits, readsBits⟩ := exists_bits before
  obtain ⟨m, rejected, -⟩ := deserialize_of_fails hj header readsBits fails
  exact ⟨m, rejected⟩

/-- The state in which the scan of the data bits starts, a header once accepted. -/
def scanStart (s : State) : State := setK 0 (setRxc 1 (setRxf [] s))

theorem deserialize_of_headerFirst (header : HeaderFirst s) :
    deserialize s = (rxBits nBits (scanStart s)).map succeed := by
  have accepts : rxHeader (setRxf [] s) = .ok (setRxc 1 (setRxf [] s)) := rxHeader_of_headerFirst header
  rw [deserialize, accepts, scanStart]
  dsimp only
  cases rxBits nBits (setK 0 (setRxc 1 (setRxf [] s))) <;> rfl

theorem deserializeCalls_of_headerFirst (header : HeaderFirst s) :
    deserializeCalls s = 1 + scanCalls nBits (scanStart s) := by
  have accepts : rxHeader (setRxf [] s) = .ok (setRxc 1 (setRxf [] s)) := rxHeader_of_headerFirst header
  rw [deserializeCalls, accepts]
  rfl

theorem deserializeCalls_of_not_headerFirst (noHeader : ¬HeaderFirst s) : deserializeCalls s = 1 := by
  have rejects : rxHeader (setRxf [] s) = _ := rxHeader_of_not_headerFirst noHeader
  rw [deserializeCalls, rejects]
  rfl

/-- DESERIALIZE leaves the cursor inside the burst. -/
theorem deserialize_rxc_le (s : State) : (ending (deserialize s)).rxc ≤ s.rxs.length := by
  by_cases header : HeaderFirst s
  · have ⟨p, first, _⟩ := header
    obtain ⟨inBurst, -⟩ := List.getElem?_eq_some_iff.1 first
    have scan := (rxBits_keeps nBits (scanStart s) Memory.wf_nil le_rfl inBurst).2
    rw [deserialize_of_headerFirst header]
    cases outcome : rxBits nBits (scanStart s) <;> rwa [outcome] at scan
  · rw [deserialize_of_not_headerFirst header]
    exact Nat.zero_le _

end

/-! ### Pairs after the last bit -/

section
variable {s t : State} (extra : List (Nat × Nat))

theorem getElem?_append_of_some {l : List (Nat × Nat)} {c : Nat} {p : Nat × Nat} (h : l[c]? = some p) :
    (l ++ extra)[c]? = some p := by
  obtain ⟨inList, -⟩ := List.getElem?_eq_some_iff.1 h
  rwa [List.getElem?_append_left inList]

/-- A scan that goes on to its end reads no pair but those it consumed. -/
theorem rxBits_setRxs_append (n : Nat) (h : rxBits n s = .ok t) :
    rxBits n (setRxs (s.rxs ++ extra) s) = .ok (setRxs (s.rxs ++ extra) t) := by
  induction n generalizing s with
  | zero => rw [← Except.ok.inj h]; rfl
  | succ n ih =>
    cases bit : rxBit s with
    | error u => simp [rxBits, bit] at h
    | ok u =>
      obtain ⟨b, p, atCursor, reads, rfl⟩ := rxBit_ok bit
      simp only [rxBits, bit] at h
      have accepts := rxBit_of_readPair (s := setRxs (s.rxs ++ extra) s) (getElem?_append_of_some extra atCursor) reads
      have later := ih h
      simp only [rxBits, accepts]
      cases b <;> exact later

theorem deserialize_setRxs_append (h : deserialize s = .ok t) :
    deserialize (setRxs (s.rxs ++ extra) s) = .ok (setRxs (s.rxs ++ extra) t) := by
  obtain ⟨header, -⟩ := reads_of_deserialize_ok h
  obtain ⟨p, first, isHeader⟩ := header
  have longer : HeaderFirst (setRxs (s.rxs ++ extra) s) := ⟨p, getElem?_append_of_some extra first, isHeader⟩
  rw [deserialize_of_headerFirst ⟨p, first, isHeader⟩] at h
  rw [deserialize_of_headerFirst longer]
  cases scan : rxBits nBits (scanStart s) with
  | error u => rw [scan] at h; cases h
  | ok u =>
    have scanLonger : rxBits nBits (scanStart (setRxs (s.rxs ++ extra) s)) = .ok (setRxs (s.rxs ++ extra) u) :=
      rxBits_setRxs_append extra nBits scan
    rw [scan] at h
    rw [scanLonger, ← Except.ok.inj h]
    rfl

end

theorem deserialize_of_exec_ok {s t : State} (h : exec .deserialize s = .next t) (ok : t.res.ok = true) :
    deserialize s = .ok t := by
  rw [exec_deserialize] at h
  cases scan : deserialize s with
  | ok u => rw [scan, ending_ok] at h; rw [Host.Outcome.next.inj h]
  | error u =>
    rw [scan, ending_error] at h
    rw [← Host.Outcome.next.inj h, (deserialize_error scan).1] at ok
    cases ok

/-- Settles O37: the accepting scan reads the same pairs in the longer burst. -/
theorem pairsAfterTheLastBitAreIgnored : Obligations.PairsAfterTheLastBitAreIgnored := by
  intro s t extra h ok
  rw [exec_deserialize, deserialize_setRxs_append extra (deserialize_of_exec_ok h ok), ending_ok]

/-! ### The calls of RX.expect, and what a scan depends on -/

theorem bitCalls_le (s : State) : bitCalls s ≤ 2 := by
  unfold bitCalls
  split <;> decide

theorem scanCalls_le (n : Nat) (s : State) : scanCalls n s ≤ 2 * n := by
  induction n generalizing s with
  | zero => exact le_rfl
  | succ n ih =>
    have here := bitCalls_le s
    unfold scanCalls
    cases rxBit s with
    | ok t => have later := ih t; simp only; omega
    | error t => simp only; omega

/-- One call for the header and at most two for each of the 71 positions (42_deserialize.md R170). -/
theorem deserializeCalls_le (s : State) : deserializeCalls s ≤ 143 := by
  unfold deserializeCalls
  cases rxHeader (setRxf [] s) with
  | ok t => have scan := scanCalls_le nBits (setK 0 t); simp only [nBits] at scan ⊢; omega
  | error t => exact Nat.le_add_right 1 142

/-- The two states agree on all that a scan reads. -/
structure SameScan (s s' : State) : Prop where
  build : s'.build = s.build
  rxs   : s'.rxs = s.rxs
  rxf   : s'.rxf = s.rxf
  k     : s'.k = s.k
  rxc   : s'.rxc = s.rxc

/-- Two scans that end alike: both go on, or both reject with the same RES. -/
inductive SameEnd : Except State State → Except State State → Prop
  | ok {t t' : State} : SameScan t t' → SameEnd (.ok t) (.ok t')
  | error {t t' : State} : SameScan t t' → t'.res = t.res → SameEnd (.error t) (.error t')

section
variable {s s' : State}

theorem SameScan.timing (h : SameScan s s') : timing s' = timing s := by rw [Machine.timing, Machine.timing, h.build]

theorem SameScan.layout (h : SameScan s s') : layout s' = layout s := by rw [Machine.layout, Machine.layout, h.build]

theorem SameScan.rxfAfter (h : SameScan s s') (b : Bool) : rxfAfter b s' = rxfAfter b s := by
  cases b with
  | true => simp only [Machine.rxfAfter, setRxBit, setRxf_rxf, h.rxf, h.k, h.layout]
  | false => exact h.rxf

theorem SameScan.pairMatches (h : SameScan s s') (mark space : Nat) :
    pairMatches mark space s' = pairMatches mark space s := by
  rw [Machine.pairMatches, Machine.pairMatches, h.rxs, h.rxc, h.build]

theorem SameScan.bitCalls (h : SameScan s s') : bitCalls s' = bitCalls s := by
  unfold Machine.bitCalls rxExpect
  rw [h.timing, h.pairMatches]
  cases Machine.pairMatches (Machine.timing s).bitMark (Machine.timing s).oneSpace s <;> rfl

theorem SameScan.rxBit (h : SameScan s s') : SameEnd (rxBit s) (rxBit s') := by
  cases test : rxTest s with
  | none =>
    have neither := rxTest_eq_none_iff.1 test
    have neither' : ∀ p, s'.rxs[s'.rxc]? = some p → readPair (Machine.timing s') s'.build.tol p = none := by
      rw [h.timing, h.rxs, h.rxc, h.build]
      exact neither
    rw [rxBit_of_neither neither, rxBit_of_neither neither', rejectBit_eq, rejectBit_eq, h.k]
    exact .error ⟨h.build, h.rxs, h.rxf, h.k, h.rxc⟩ rfl
  | some read =>
    obtain ⟨p, atCursor, reads⟩ := readPair_of_rxTest (b := read.1) (t := read.2) test
    have atCursor' : s'.rxs[s'.rxc]? = some p := by rw [h.rxs, h.rxc, atCursor]
    have reads' : readPair (Machine.timing s') s'.build.tol p = some read.1 := by rw [h.timing, h.build, reads]
    rw [rxBit_of_readPair atCursor reads, rxBit_of_readPair atCursor' reads', h.rxfAfter, h.k, h.rxc]
    exact .ok ⟨h.build, h.rxs, rfl, rfl, rfl⟩

theorem SameScan.rxBits (h : SameScan s s') (n : Nat) : SameEnd (rxBits n s) (rxBits n s') := by
  induction n generalizing s s' with
  | zero => exact .ok h
  | succ n ih =>
    unfold Machine.rxBits
    have bit := h.rxBit
    generalize Machine.rxBit s = e, Machine.rxBit s' = e' at bit
    cases bit with
    | ok same => exact ih same
    | error same res => exact .error same res

theorem SameScan.scanCalls (h : SameScan s s') (n : Nat) : scanCalls n s' = scanCalls n s := by
  induction n generalizing s s' with
  | zero => rfl
  | succ n ih =>
    unfold Machine.scanCalls
    rw [h.bitCalls]
    have bit := h.rxBit
    generalize Machine.rxBit s = e, Machine.rxBit s' = e' at bit
    cases bit with
    | ok same => exact congrArg _ (ih same)
    | error => rfl

/-- DESERIALIZE empties RXF, rewinds the cursor and sets k before it reads them, so the build and the burst decide all. -/
theorem deserialize_of_sameBurst (build : s'.build = s.build) (rxs : s'.rxs = s.rxs) :
    deserializeCalls s' = deserializeCalls s ∧
      (ending (deserialize s')).rxf = (ending (deserialize s)).rxf ∧
      (ending (deserialize s')).rxc = (ending (deserialize s)).rxc ∧
      (ending (deserialize s')).res = (ending (deserialize s)).res := by
  have sameHeader : HeaderFirst s' ↔ HeaderFirst s := by rw [HeaderFirst, HeaderFirst, timing, timing, build, rxs]
  by_cases header : HeaderFirst s
  · have header' := sameHeader.2 header
    have start : SameScan (scanStart s) (scanStart s') := ⟨build, rxs, rfl, rfl, rfl⟩
    refine ⟨?_, ?_⟩
    · rw [deserializeCalls_of_headerFirst header, deserializeCalls_of_headerFirst header', start.scanCalls]
    · rw [deserialize_of_headerFirst header, deserialize_of_headerFirst header']
      have scan := start.rxBits nBits
      generalize rxBits nBits (scanStart s) = e, rxBits nBits (scanStart s') = e' at scan
      cases scan with
      | ok same => exact ⟨same.rxf, same.rxc, rfl⟩
      | error same res => exact ⟨same.rxf, same.rxc, res⟩
  · have header' := mt sameHeader.1 header
    rw [deserializeCalls_of_not_headerFirst header, deserializeCalls_of_not_headerFirst header',
      deserialize_of_not_headerFirst header, deserialize_of_not_headerFirst header']
    exact ⟨rfl, rfl, rfl, rfl⟩

end

/-- Settles O38, from the bound on the calls, the three ways DESERIALIZE can end, and what a scan reads. -/
theorem deserializeIsBounded : Obligations.DeserializeIsBounded := by
  intro s
  refine ⟨deserializeCalls_le s, _, exec_deserialize s, ?_, fun s' build rxs => ?_⟩
  · rcases deserialize_cases s with ⟨m, h⟩ | h | ⟨m, j, hj, h⟩ <;> rw [h]
    · exact le_rfl
    · exact Nat.zero_le _
    · exact show 1 + j ≤ 72 by omega
  · obtain ⟨calls, outcome⟩ := deserialize_of_sameBurst build rxs
    exact ⟨calls, _, exec_deserialize s', outcome⟩

/-- Settles O31: the distance in the model's test is the sum of two differences cut off at 0, of which one is 0. -/
theorem referenceMatchIsAQuarter : Obligations.ReferenceMatchIsAQuarter := by
  intro e o
  simp only [matchDuration, decide_eq_true_iff]
  omega

end Sys2Proof.Proofs

/-! ## The invariant of the machine, and what RES records

`LegalEffect` says of each way an instruction changes the state (`Effect`) what the invariant needs of the values it writes, and
of a scan also why RES is what it is. `exec_legalEffect` walks through the table's rows once; the invariant and the statement
about RES follow by cases. -/

namespace Sys2Proof.Proofs

open Sys2Proof.Machine Sys2Proof.Claims

/-! ### The legal effects of an instruction -/

/-- What RES may be after a scan, or a part of one, that ends at position `k` with the cursor at `rxc`: as before, a success, or a
rejection that has its cause in the burst (60_exceptions.md R241, R242). -/
inductive Recorded (s : State) (k rxc : Nat) : Result → Prop
  | kept : Recorded s k rxc s.res
  | success : Recorded s k rxc success
  | noHeader : ¬HeaderFirst s → Recorded s k rxc ⟨false, .headerMismatch, 0⟩
  | badBit : k < 71 → (∀ p, s.rxs[rxc]? = some p → readPair (timing s) s.build.tol p = none) →
      Recorded s k rxc ⟨false, .bitMismatch, k⟩

/-- A scan, or a part of one, that keeps RXF, the position and the cursor legal and has a cause for its RES. -/
inductive LegalScan (s : State) : State → Prop
  | mk (rxf : Memory) (k rxc : Nat) (res : Result) (canonical : Memory.wf s.rxf = true → Memory.wf rxf = true)
      (inFrame : s.k ≤ 71 → k ≤ 71) (inBurst : s.rxc ≤ s.rxs.length → rxc ≤ s.rxs.length)
      (recorded : Recorded s k rxc res) : LegalScan s (scanned rxf k rxc res s)

/-- The ways an instruction changes the state, each with what keeps the written values legal. -/
inductive LegalEffect (s : State) (i : Instr) : State → Prop
  | txf (m : Memory) : (Memory.wf s.txf = true → Memory.wf m = true) → LegalEffect s i (setTxf m s)
  | rxf (m : Memory) : Memory.wf m = true → LegalEffect s i (setRxf m s)
  | dec (c : Climate) : (InDomain s.dec.temp → InDomain c.temp) → LegalEffect s i (setDec c s)
  | symbol (l : List Item) : LegalEffect s i (setTxseq (s.txseq ++ l) s)
  | scan {t : State} : i ∈ resWriters → LegalScan s t → LegalEffect s i t
  | serialize : LegalEffect s i (serialize s)
  | transmit : LegalEffect s i (serialize (pack s))
  | unpack : LegalEffect s i (unpack s)
  | receive {t : State} : i = .receive → t.res.ok = true → LegalScan s t → LegalEffect s i (publish (unpack t))

section
variable {s t : State} {i : Instr}

theorem LegalEffect.unchanged : LegalEffect s i s := .txf s.txf id

theorem LegalEffect.of_txf (frame : t = setTxf t.txf s) (canonical : Memory.wf s.txf = true → Memory.wf t.txf = true) :
    LegalEffect s i t := frame ▸ .txf t.txf canonical

theorem LegalEffect.arm {taken : Prop} [Decidable taken] (h : LegalEffect s i t) :
    LegalEffect s i (if taken then t else s) := by
  split
  · exact h
  · exact .unchanged

variable (r : Rev)

theorem packModeArm_legal (m : Mode) : LegalEffect s i (packModeArm r m s) := .arm (.of_txf (packMode_eq r s) packMode_wf)

theorem packFanArm_legal (f : Fan) : LegalEffect s i (packFanArm r f s) := .arm (.of_txf (packFan_eq r s) packFan_wf)

theorem packPresetArm_legal (p : Preset) : LegalEffect s i (packPresetArm r p s) :=
  .arm (.of_txf (packPreset_eq r s) packPreset_wf)

theorem unpackModeArm_legal (m : Mode) : LegalEffect s i (unpackModeArm r m s) := .arm (.dec _ id)

theorem unpackFanArm_legal (f : Fan) : LegalEffect s i (unpackFanArm r f s) := .arm (.dec _ id)

theorem unpackPresetArm_legal (p : Preset) : LegalEffect s i (unpackPresetArm r p s) := .arm (.dec _ id)

theorem writeBytes_nil_wf {bytes : List Byte} (nine : bytes.length = 9) : Memory.wf (writeBytes [] 0 bytes) = true :=
  Memory.wf_writeBytes Memory.wf_nil (by omega)

theorem loadTxf_legal {bytes : List Byte} (nine : bytes.length = 9) : LegalEffect s i (loadTxf bytes s) :=
  .txf _ fun _ => writeBytes_nil_wf nine

theorem loadRxf_legal {bytes : List Byte} (nine : bytes.length = 9) : LegalEffect s i (loadRxf bytes s) :=
  .rxf _ (writeBytes_nil_wf nine)

theorem txHeader_legal : LegalEffect s i (txHeader s) := txHeader_eq s ▸ .symbol _

theorem txBit_legal (b : Bool) : LegalEffect s i (txBit b s) := txBit_eq s b ▸ .symbol _

theorem txFinal_legal : LegalEffect s i (txFinal s) := txFinal_eq s ▸ .symbol _

theorem txGap_legal : LegalEffect s i (txGap s) := txGap_eq s ▸ .symbol _

theorem LegalScan.unchanged : LegalScan s s := .mk s.rxf s.k s.rxc s.res id id id .kept

theorem rxHeader_legal (s : State) : LegalScan s (ending (rxHeader s)) := by
  by_cases header : HeaderFirst s
  · have ⟨p, first, _⟩ := header
    obtain ⟨inBurst, -⟩ := List.getElem?_eq_some_iff.1 first
    rw [rxHeader_of_headerFirst header]
    exact .mk s.rxf s.k 1 s.res id id (fun _ => inBurst) .kept
  · rw [rxHeader_of_not_headerFirst header]
    exact .mk s.rxf s.k 0 _ id id (fun _ => Nat.zero_le _) (.noHeader header)

theorem rxSymbol_legal (b : Bool) (s : State) : LegalScan s (rxSymbol b s) := by
  by_cases inFrame : s.k < 71
  · cases test : rxTest s with
    | none =>
      have neither := rxTest_eq_none_iff.1 test
      rw [rxSymbol_of_neither inFrame neither]
      exact .mk s.rxf s.k s.rxc _ id id id (.badBit inFrame neither)
    | some read =>
      obtain ⟨p, atCursor, reads⟩ := readPair_of_rxTest (b := read.1) (t := read.2) test
      obtain ⟨inBurst, -⟩ := List.getElem?_eq_some_iff.1 atCursor
      rw [rxSymbol_of_readPair inFrame atCursor reads]
      split
      · exact .mk (rxfAfter b s) (s.k + 1) (s.rxc + 1) s.res (fun wf => rxfAfter_wf b wf inFrame) (fun _ => inFrame)
          (fun _ => inBurst) .kept
      · exact .unchanged
  · rw [rxSymbol_of_complete (Nat.not_lt.1 inFrame)]
    exact .unchanged

theorem deserialize_legal (s : State) : LegalScan s (ending (deserialize s)) := by
  have canonical := deserialize_wf s
  have inBurst := deserialize_rxc_le s
  by_cases header : HeaderFirst s
  · rcases reads_or_firstFailing s 71 with reads | ⟨j, hj, fails, before⟩
    · obtain ⟨m, accepted⟩ := deserialize_of_allRead header reads
      rw [accepted] at canonical inBurst ⊢
      exact .mk m 71 72 success (fun _ => canonical) (fun _ => le_rfl) (fun _ => inBurst) .success
    · obtain ⟨m, rejected⟩ := deserialize_of_firstFailing hj header fails before
      rw [rejected] at canonical inBurst ⊢
      exact .mk m j (j + 1) _ (fun _ => canonical) (fun _ => Nat.le_of_lt hj) (fun _ => inBurst) (.badBit hj fails)
  · rw [deserialize_of_not_headerFirst header]
    exact .mk [] s.k 0 _ (fun _ => Memory.wf_nil) id (fun _ => Nat.zero_le _) (.noHeader header)

theorem deserializeTo_legal (reason : Reason) (s : State) : LegalScan s (deserializeTo reason s) := by
  unfold deserializeTo
  split
  · exact deserialize_legal s
  · exact .unchanged

theorem receive_legal (h : exec .receive s = .next t) : LegalEffect s .receive t := by
  have scan := deserialize_legal s
  rcases exec_receive_cases h with rejected | ⟨u, accepted, rfl⟩
  · rw [rejected] at scan
    exact .scan (by decide) scan
  · rw [accepted] at scan
    exact .receive rfl (by rw [res_of_deserialize_ok accepted]; rfl) scan

/-- Whatever instruction runs, its effect is a legal one. -/
theorem exec_legalEffect (h : exec i s = .next t) : LegalEffect s i t := by
  cases i with
  | pack => cases h; exact .of_txf (pack_eq s) fun _ => pack_wf s
  | serialize => cases h; exact .serialize
  | transmit => cases h; exact .transmit
  | deserialize => cases h; exact .scan (by decide) (deserialize_legal s)
  | unpack => cases h; exact .unpack
  | receive => exact receive_legal h
  | unassigned011 | unassigned111 => cases h
  | frameA d | frameB d | frameC d => cases d <;> cases h; exacts [loadTxf_legal rfl, loadRxf_legal rfl]
  | aModeOff d | aModeAuto d | aModeDry d | aModeCool d | aModeFanOnly d
  | bModeOff d | bModeAuto d | bModeCool d | bModeDry d | bModeFanOnly d | bModeHeat d
  | cModeOff d | cModeCool d | cModeDry d | cModeFanOnly d | cModeHeat d | cModeAuto d =>
    cases d <;> cases h; exacts [packModeArm_legal .., unpackModeArm_legal ..]
  | aTemp d | bTemp d | cTemp d =>
    cases d <;> cases h; exacts [.of_txf (packTemp_eq ..) packTemp_wf, .dec _ fun _ => rxTemp_mem s _]
  | aFanAuto d | aFanLow d | aFanMedium d | aFanHigh d
  | bFanAuto d | bFanLow d | bFanMedium d | bFanHigh d
  | cFanLow d | cFanMedium d | cFanHigh d | cFanAuto d =>
    cases d <;> cases h; exacts [packFanArm_legal .., unpackFanArm_legal ..]
  | aNightNone d | aNightSleep d | bNightNone d | bNightSleep d | cNightNone d | cNightSleep d =>
    cases d <;> cases h; exacts [packPresetArm_legal .., unpackPresetArm_legal ..]
  | symHeader d => cases d <;> cases h; exacts [txHeader_legal, .scan (by decide) (rxHeader_legal s)]
  | symBit1 d | symBit0 d => cases d <;> cases h; exacts [txBit_legal _, .scan (by decide) (rxSymbol_legal _ s)]
  | symFinal d => cases d <;> cases h; exacts [txFinal_legal, .unchanged]
  | symGap d => cases d <;> cases h; exacts [txGap_legal, .unchanged]
  | reasonNone | reasonHeaderMismatch | reasonBitMismatch => cases h; exact .scan (by decide) (deserializeTo_legal _ s)

/-! ### The invariant -/

theorem Recorded.legal {k rxc : Nat} {res : Result} (h : Recorded s k rxc res) (before : s.res.Legal) : res.Legal := by
  cases h with
  | kept => exact before
  | success => exact fun _ => rfl
  | noHeader => exact ⟨rfl, rfl⟩
  | badBit inFrame => exact ⟨rfl, inFrame⟩

theorem LegalScan.inv (h : LegalScan s t) (inv : s.Inv) : t.Inv := by
  cases h with
  | mk rxf k rxc res canonical inFrame inBurst recorded =>
    exact { inv with
      rxf := canonical inv.rxf, k := inFrame inv.k, rxc := inBurst inv.rxc, res := recorded.legal inv.res }

theorem setTxf_inv {m : Memory} (canonical : Memory.wf m = true) (inv : s.Inv) : (setTxf m s).Inv :=
  { inv with txf := canonical }

theorem setDec_inv {c : Climate} (inDomain : InDomain c.temp) (inv : s.Inv) : (setDec c s).Inv :=
  { inv with dec := inDomain }

theorem pack_inv (inv : s.Inv) : (pack s).Inv := pack_eq s ▸ setTxf_inv (pack_wf s) inv

theorem serialize_inv (inv : s.Inv) : (serialize s).Inv := by
  have emitted : ∀ e ∈ (serialize s).emit, e.Shaped := by
    rw [serialize_emit]
    exact List.forall_mem_append.2 ⟨inv.emit, List.forall_mem_singleton.2 (shaped_itemsOf ..)⟩
  have round : (serialize s).rd = 1 ∨ (serialize s).rd = 2 := by
    rw [serialize_eq, setEmit_rd, setK_rd, setRd_rd]
    cases (layout s).rounds with
    | one => exact .inl rfl
    | two => exact .inr rfl
  rw [serialize_eq] at emitted round ⊢
  exact { inv with emit := emitted, rd := round, k := le_rfl }

theorem unpack_inv (inv : s.Inv) : (unpack s).Inv := by
  rw [unpack_eq]
  exact { inv with dec := rxTemp_mem s _ }

/-- What UNPACK decodes is in the domains of 10_state.md R21, R22 (43_unpack.md R198). -/
theorem decoded_valid (r : Rev) (s : State) : (decoded r s).Valid r := ⟨rxTemp_mem s r, rxMode_supported s r⟩

theorem publish_unpack_inv (inv : s.Inv) : (publish (unpack s)).Inv := by
  have valid : (unpack s).cs.Valid (unpack s).build.rev := by
    rw [unpack_cs, unpack_build]
    exact decoded_valid _ s
  have after := unpack_inv inv
  exact { after with pub := List.forall_mem_append.2 ⟨after.pub, List.forall_mem_singleton.2 valid⟩ }

theorem LegalEffect.inv (h : LegalEffect s i t) (inv : s.Inv) : t.Inv := by
  cases h with
  | txf m canonical => exact setTxf_inv (canonical inv.txf) inv
  | rxf m canonical => exact { inv with rxf := canonical }
  | dec c inDomain => exact setDec_inv (inDomain inv.dec) inv
  | symbol l => exact { inv with }
  | scan _ scan => exact scan.inv inv
  | serialize => exact serialize_inv inv
  | transmit => exact serialize_inv (pack_inv inv)
  | unpack => exact unpack_inv inv
  | receive _ _ scan => exact publish_unpack_inv (scan.inv inv)

theorem setInbox_inv (rest : List HostAct) (inv : s.Inv) : (setInbox rest s).Inv := { inv with }

theorem handBurst_inv (l : List (Nat × Nat)) (inv : s.Inv) : (setRxc 0 (setRxs l s)).Inv :=
  { inv with rxc := Nat.zero_le _ }

theorem setCs_inv (c : Climate) (inv : s.Inv) : (setCs c s).Inv := { inv with }

end

/-- Settles O55: the host's actions keep the invariant, and so does every legal effect of an instruction. -/
theorem everyStepKeepsTheInvariant : Obligations.EveryStepKeepsTheInvariant := by
  intro s t inv h
  rcases step_cases h with rfl | ⟨rest, ⟨c, rfl⟩ | ⟨l, rfl⟩ | ⟨i, hexec⟩⟩
  · exact inv
  · exact setCs_inv c (setInbox_inv rest inv)
  · exact handBurst_inv l (setInbox_inv rest inv)
  · exact (exec_legalEffect hexec).inv (setInbox_inv rest inv)

/-- Settles O54, field by field: the buffers, the ports and the inbox are empty. -/
theorem invariantHoldsAtReset : Obligations.InvariantHoldsAtReset where
  txf := Memory.wf_nil
  rxf := Memory.wf_nil
  rd := .inl rfl
  k := Nat.zero_le _
  res := fun notOk => nomatch notOk
  rxc := le_rfl
  emit := fun _ he => nomatch he
  pub := fun _ hc => nomatch hc
  dec := by decide

/-! ### The reason rows, and what RES records -/

section
variable {s t : State} {i : Instr}

theorem LegalEffect.res_of_notMem (h : LegalEffect s i t) (noWriter : i ∉ resWriters) : t.res = s.res := by
  cases h with
  | txf | rxf | dec | symbol => rfl
  | serialize => exact serialize_res s
  | transmit => rw [serialize_res, pack_res]
  | unpack => rw [unpack_eq]; rfl
  | scan writer => exact absurd writer noWriter
  | receive isReceive => subst isReceive; exact absurd (by decide) noWriter

/-- A rejection that an instruction records has its cause in the burst (60_exceptions.md R240 to R242). -/
theorem LegalEffect.rejection (h : LegalEffect s i t) (changed : t.res ≠ s.res) (notOk : t.res.ok = false) :
    (t.res = ⟨false, .headerMismatch, 0⟩ ∧ ¬HeaderFirst s) ∨
    (t.res = ⟨false, .bitMismatch, t.k⟩ ∧ t.k < 71 ∧
      ∀ p, s.rxs[t.rxc]? = some p → readPair (timing s) s.build.tol p = none) := by
  cases h with
  | txf | rxf | dec | symbol => exact absurd rfl changed
  | serialize => exact absurd (serialize_res s) changed
  | transmit => exact absurd (by rw [serialize_res, pack_res]) changed
  | unpack => exact absurd (by rw [unpack_eq]; rfl) changed
  | receive _ ok =>
    rw [publish_eq, setPub_res, unpack_eq] at notOk
    exact absurd (ok.symm.trans notOk) (by decide)
  | scan _ scan =>
    obtain ⟨rxf, k, rxc, res, -, -, -, recorded⟩ := scan
    cases recorded with
    | kept => exact absurd rfl changed
    | success => cases notOk
    | noHeader noHeader => exact .inl ⟨rfl, noHeader⟩
    | badBit inFrame neither => exact .inr ⟨rfl, inFrame, neither⟩

theorem exec_reasonRows (s : State) : exec .reasonNone s = .next (deserializeTo .none s) ∧
    exec .reasonHeaderMismatch s = .next (deserializeTo .headerMismatch s) ∧
    exec .reasonBitMismatch s = .next (deserializeTo .bitMismatch s) := ⟨rfl, rfl, rfl⟩

/-- The row of the reason that DESERIALIZE ends with is DESERIALIZE, and the others do nothing. -/
theorem deserializeTo_of_res {res : Result} (h : (ending (deserialize s)).res = res) (r : Reason) :
    deserializeTo r s = if res.reason = r then ending (deserialize s) else s := by
  rw [deserializeTo, h]

end

/-- Settles O53: each kind of burst gives its RES, which decides the reason rows, and a legal effect has a cause for its RES. -/
theorem reasonRowsRecordTheirResult : Obligations.ReasonRowsRecordTheirResult := by
  refine ⟨fun s => ?rows, fun i s t h => ?causes⟩
  case causes => exact ⟨(exec_legalEffect h).res_of_notMem, (exec_legalEffect h).rejection⟩
  case rows =>
    obtain ⟨rowNone, rowHeader, rowBit⟩ := exec_reasonRows s
    rw [rowNone, rowHeader, rowBit]
    refine ⟨_, exec_deserialize s, fun header reads => ?accepted, fun noHeader => ?noHeader,
      fun j hj header fails before => ?badBit⟩
    case accepted =>
      obtain ⟨m, accepted⟩ := deserialize_of_allRead header reads
      have res : (ending (deserialize s)).res = success := by rw [accepted]; rfl
      simp only [deserializeTo_of_res res]
      exact ⟨res, rfl, rfl, rfl⟩
    case noHeader =>
      have res : (ending (deserialize s)).res = ⟨false, .headerMismatch, 0⟩ := by
        rw [deserialize_of_not_headerFirst noHeader]; rfl
      simp only [deserializeTo_of_res res]
      exact ⟨res, rfl, rfl, rfl⟩
    case badBit =>
      obtain ⟨m, rejected⟩ := deserialize_of_firstFailing hj header fails before
      have res : (ending (deserialize s)).res = ⟨false, .bitMismatch, j⟩ := by rw [rejected]; rfl
      simp only [deserializeTo_of_res res]
      exact ⟨res, rfl, rfl, rfl⟩

end Sys2Proof.Proofs

/-! ## Reference builds, PACK's closed forms and its rows

With a reference layout the fields of the model's frame are the bytes that the rules write out, one lemma for each field; the
closed forms and the rows of each revision are read off them. -/

namespace Sys2Proof.Proofs

open Sys2Proof.Machine Sys2Proof.Claims

/-! ### The reference builds -/

theorem referenceLayout_wf (r : Rev) : ((referenceBuild r).layout.get r).WF r := by
  cases r
  all_goals
    exact ⟨by decide, by decide, by decide, by decide, by decide, by unfold Layout.WfSkipped Layout.Sent; decide,
      by simp only [Layout.WfSettled]; decide⟩

theorem referenceTiming_usable (r : Rev) : TimingUsable ((referenceBuild r).timing.get r) .reference := by
  have m1 (e : Nat) (_ : 0 < e) : matchDuration .reference e e = true := (referenceMatchIsAQuarter e e).2
  cases r
  all_goals exact ⟨by decide, by decide, by decide, m1⟩

/-- Settles O8, from the reference layout and the reference timing of each revision. -/
theorem referenceBuildsAreUsable : Obligations.ReferenceBuildsAreUsable :=
  fun r => ⟨referenceLayout_wf r, referenceTiming_usable r⟩

/-- Under MSB the never-sent bit is bit 0 of byte 8, so no value in byte 8 that WF lets be sent is odd. -/
theorem order_eq_lsb_of_sent {L : Layout} {v : Byte} (sent : L.Sent 8 v) (odd : v &&& 0x01 ≠ 0) : L.order = .lsb := by
  have even : v &&& L.skippedMask = 0 := sent.resolve_left (not_not_intro rfl)
  cases order : L.order with
  | lsb => rfl
  | msb =>
    rw [Layout.skippedMask, order] at even
    exact absurd even odd

/-- Settles O9: A's MEDIUM code and B's night mask are odd and lie in byte 8. -/
theorem wellFormedLayoutsOfAAndBAreLsbFirst : Obligations.WellFormedLayoutsOfAAndBAreLsbFirst := by
  rintro L (wf | wf)
  · obtain ⟨-, -, -, -, fanByte, medium, -⟩ := wf.settled
    obtain ⟨-, fans, -, -⟩ := wf.skipped
    have sent : L.Sent L.fanByte L.fanCodes.medium := fans _ (fanCode_mem L .medium)
    rw [fanByte, medium] at sent
    exact order_eq_lsb_of_sent sent (by decide)
  · obtain ⟨nightByte, nightMask, -⟩ := wf.settled
    obtain ⟨-, -, -, sent⟩ := wf.skipped
    rw [nightByte, nightMask] at sent
    exact order_eq_lsb_of_sent sent (by decide)

/-! ### The fields of a reference layout are the bytes the rules write out -/

section
variable (m : Mode) (f : Fan) (p : Preset) (c : Climate)

theorem modeBits_layoutA : modeBits .A layoutA m = modeByteA m := by cases m <;> rfl

theorem modeBits_layoutB : modeBits .B layoutB m = modeByteB m := by cases m <;> rfl

theorem modeBits_layoutC : modeBits .C layoutC m = modeByteC m := by cases m <;> rfl

theorem fanCode_layoutA : fanCode layoutA f = fanByteA f := by cases f <;> rfl

theorem fanCode_layoutB : fanCode layoutB f = fanByteB f := by cases f <;> rfl

theorem fanCode_layoutC : fanCode layoutC f = fanByteC f := by cases f <;> rfl

theorem presetBits_eq_nightByte {L : Layout} (mask : L.nightMask = 0x01) : presetBits L p = nightByte p := by
  cases p with
  | none => rfl
  | sleep => exact mask

theorem sentTemp_eq (r : Rev) :
    sentTemp r c = if r = .A ∧ c.mode = .dry then 24 else clamp c.temp 18 30 := (returned_temp r c).symm

/-- The temperature field in its place, as the rules write it. -/
theorem tempBits_sentTemp (r : Rev) (L : Layout) :
    tempBits L (sentTemp r c) = tempByte (sentTemp r c) <<< L.tempShift := by
  have low := (sentTemp_mem r c).1
  rw [tempBits, tempField_eq_ofInt (by omega), tempByte]

theorem tempBits_layoutA :
    tempBits layoutA (sentTemp .A c) = tempByte (if c.mode = .dry then 24 else clamp c.temp 18 30) :=
  (tempBits_sentTemp c .A layoutA).trans (BitVec.shiftLeft_zero _)

theorem tempBits_layoutB : tempBits layoutB (sentTemp .B c) = tempByte (clamp c.temp 18 30) <<< 4 :=
  tempBits_sentTemp c .B layoutB

theorem tempBits_layoutC : tempBits layoutC (sentTemp .C c) = tempByte (clamp c.temp 18 30) :=
  (tempBits_sentTemp c .C layoutC).trans (BitVec.shiftLeft_zero _)

theorem fanCode_sentFan_layoutC :
    fanCode layoutC (sentFan .C c) = if c.mode = .auto then 0x30 else fanByteC c.fan := by
  rw [sentFan, apply_ite (fanCode layoutC), fanCode_layoutC, fanCode_layoutC]
  rfl

end

/-! ### The closed forms of PACK -/

theorem frameBytes_pack (s : State) : frameBytes (pack s).txf =
    (List.range 9).map (overlay (frameFields s.build.rev (layout s) s.cs)) :=
  List.map_congr_left fun j _ => readByte_pack s j

/-- The nine bytes of PACK, where they are known, give its next state. -/
theorem exec_pack_of_frame {s : State} {bytes : List Byte}
    (frame : (List.range 9).map (overlay (frameFields s.build.rev (layout s) s.cs)) = bytes) :
    ∃ m, exec .pack s = .next (setTxf m s) ∧ frameBytes m = bytes ∧ Memory.wf m = true :=
  ⟨(pack s).txf, by rw [exec_pack, ← pack_eq], (frameBytes_pack s).trans frame, pack_wf s⟩

section
variable (c : Climate)

theorem overlay_layoutA : (List.range 9).map (overlay (frameFields .A layoutA c)) = frameA c := by
  simp only [frameFields, modeBits_layoutA, tempBits_layoutA, fanCode_layoutA,
    presetBits_eq_nightByte c.preset (L := layoutA) rfl]
  simp [List.range, List.range.loop, overlay, layoutA, frameA, sentFan]

theorem overlay_layoutB : (List.range 9).map (overlay (frameFields .B layoutB c)) = frameB c := by
  simp only [frameFields, modeBits_layoutB, tempBits_layoutB, fanCode_layoutB,
    presetBits_eq_nightByte c.preset (L := layoutB) rfl]
  simp [List.range, List.range.loop, overlay, layoutB, frameB, sentFan]

theorem overlay_layoutC : (List.range 9).map (overlay (frameFields .C layoutC c)) = frameC c := by
  simp only [frameFields, modeBits_layoutC, tempBits_layoutC, fanCode_sentFan_layoutC,
    presetBits_eq_nightByte c.preset (L := layoutC) rfl]
  simp [List.range, List.range.loop, overlay, layoutC, frameC]

end

/-- Settles O10: the overlay of A's four fields is the closed form. -/
theorem packAGivesTheClosedForm : Obligations.PackAGivesTheClosedForm := by
  intro s rev reference
  have layoutEq : layout s = layoutA := by rw [layout, rev, ← reference]; rfl
  exact exec_pack_of_frame (by rw [rev, layoutEq, overlay_layoutA])

/-- Settles O11: the overlay of B's four fields is the closed form. -/
theorem packBGivesTheClosedForm : Obligations.PackBGivesTheClosedForm := by
  intro s rev reference
  have layoutEq : layout s = layoutB := by rw [layout, rev, ← reference]; rfl
  exact exec_pack_of_frame (by rw [rev, layoutEq, overlay_layoutB])

/-- Settles O12: the overlay of C's four fields is the closed form. -/
theorem packCGivesTheClosedForm : Obligations.PackCGivesTheClosedForm := by
  intro s rev reference
  have layoutEq : layout s = layoutC := by rw [layout, rev, ← reference]; rfl
  exact exec_pack_of_frame (by rw [rev, layoutEq, overlay_layoutC])

/-! ### The clamp -/

/-- PACK sees the temperature through its clamp alone. -/
theorem pack_setCs_temp (s : State) {tc : Int} (same : clamp tc 18 30 = clamp s.cs.temp 18 30) :
    pack (setCs { s.cs with temp := tc } s) = setCs { s.cs with temp := tc } (pack s) := by
  have sameTemp : sentTemp s.build.rev { s.cs with temp := tc } = sentTemp s.build.rev s.cs := by
    rw [sentTemp_eq, sentTemp_eq, same]
  have sameFields : frameFields s.build.rev (layout s) { s.cs with temp := tc } =
      frameFields s.build.rev (layout s) s.cs := by
    rw [frameFields, sameTemp]
    rfl
  have sameFrame : (pack (setCs { s.cs with temp := tc } s)).txf = (pack s).txf := by
    refine memory_ext (pack_wf _) (pack_wf s) fun j => ?_
    rw [readByte_pack, readByte_pack]
    exact congrArg (overlay · j) sameFields
  rw [pack_eq, sameFrame, pack_eq s]
  rfl

/-- Settles O15: the clamped temperature is its own clamp, and the temperature region holds what PACK encodes. -/
theorem temperatureIsClampedOnACopy : Obligations.TemperatureIsClampedOnACopy := by
  intro s tc clamped
  have clampTemp : clamp s.cs.temp 18 30 = tc := by unfold clamp; split_ifs <;> omega
  have clampAgain : clamp tc 18 30 = tc := by unfold clamp; split_ifs <;> omega
  refine ⟨pack s, exec_pack s, by rw [pack_cs], ?_, fun wf => ?_⟩
  · rw [exec_pack, pack_setCs_temp s (clampAgain.trans clampTemp.symm)]
  · obtain ⟨-, temp, -, -⟩ := forall_mem_frameFields.1 (frame_and_mask wf s.cs)
    rw [readByte_pack]
    refine temp.trans ((tempBits_sentTemp s.cs s.build.rev (layout s)).trans ?_)
    rw [sentTemp_eq, clampTemp]
    rfl

/-! ### PACK as its FIELD rows -/

section
variable {α : Type} [DecidableEq α] {arm : α → State → State} {f : State → State} {key : State → α}

/-- Arms for different values of a key that the step keeps: at most one of them is the step, and the others do nothing. -/
theorem runArms_eq_of_key (armStep : ∀ v s, arm v s = if key s = v then f s else s) (keyKept : ∀ s, key (f s) = key s)
    {values : List α} (distinct : values.Nodup) (s : State) :
    runArms arm values s = if key s ∈ values then f s else s := by
  induction values generalizing s with
  | nil => rfl
  | cons v values ih =>
    obtain ⟨notLater, distinct⟩ := List.nodup_cons.1 distinct
    rw [runArms, List.foldl_cons, ← runArms, ih distinct, armStep]
    by_cases here : key s = v
    · rw [if_pos here, keyKept, here, if_neg notLater, if_pos List.mem_cons_self]
    · rw [if_neg here]
      simp only [List.mem_cons, here, false_or]

end

section
variable (r : Rev) (s : State)

theorem packMode_cs : (packMode r s).cs = s.cs := by rw [packMode_eq]; rfl

theorem packPreset_cs : (packPreset r s).cs = s.cs := by rw [packPreset_eq]; rfl

/-- The mode without a row is HEAT in revision A, for which PACK writes nothing (40_pack.md R103). -/
theorem packMode_of_noRow (noRow : s.cs.mode ∉ Mode.off :: modeArms r) : packMode r s = s := by
  unfold packMode
  cases mode : s.cs.mode with
  | off => rfl
  | heat =>
    cases r with
    | A => rfl
    | B | C => rw [mode] at noRow; exact absurd (by decide) noRow
  | cool | dry | fanOnly | auto => rw [mode] at noRow; exact absurd (by cases r <;> decide) noRow

theorem modeArms_eq_packMode : runArms (packModeArm r) (.off :: modeArms r) s = packMode r s := by
  have distinct : (Mode.off :: modeArms r).Nodup := by cases r <;> decide
  rw [runArms_eq_of_key (arm := packModeArm r) (f := packMode r) (key := fun s => s.cs.mode) (fun _ _ => rfl)
    (fun s => by rw [packMode_cs]) distinct]
  split
  · rfl
  · exact (packMode_of_noRow r s ‹_›).symm

theorem fanArms_eq_packFan : runArms (packFanArm r) (fanArms r) s = packFan r s := by
  have distinct : (fanArms r).Nodup := by cases r <;> decide
  rw [runArms_eq_of_key (arm := packFanArm r) (f := packFan r) (key := fun s => sentFan r s.cs) (fun _ _ => rfl)
    (fun _ => rfl) distinct, if_pos (mem_fanArms r _)]

theorem presetArms_eq_packPreset : runArms (packPresetArm r) [.none, .sleep] s = packPreset r s := by
  have listed (p : Preset) : p ∈ [Preset.none, .sleep] := by cases p <;> decide
  rw [runArms_eq_of_key (arm := packPresetArm r) (f := packPreset r) (key := fun s => s.cs.preset) (fun _ _ => rfl)
    (fun s => by rw [packPreset_cs]) (by decide), if_pos (listed _)]

/-- The transmit side of the rows, as `runAll_rows_rx` is the receive side. -/
theorem runAll_rows_tx : runAll (rowsOf r .tx) s = .next (runArms (packPresetArm r) [.none, .sleep]
    (runArms (packFanArm r) (fanArms r) (packTemp r (runArms (packModeArm r) (.off :: modeArms r) s)))) := by
  cases r
  all_goals
    repeat refine (runAll_cons_of_next rfl).trans ?_
    simp only [runAll, runArms, modeArms, fanArms, List.foldl]

theorem exec_zeroFrame : exec (zeroFrame r) s = .next (setTxf [] s) := by cases r <;> rfl

end

/-- Settles O23: the frame row zeroes TXF, and the rows of each field are its step. -/
theorem fieldRowsInOrderArePack : Obligations.FieldRowsInOrderArePack := by
  intro s
  rw [runAll_cons_of_next (exec_zeroFrame _ s), runAll_rows_tx, modeArms_eq_packMode, fanArms_eq_packFan,
    presetArms_eq_packPreset]
  rfl

/-! ### The FIELD rows on the transmit side -/

section
variable {s t : State} {taken : Prop} {b : Nat} {v : Byte}

/-- A row that is one write where it is taken and nothing otherwise. -/
theorem sends_of_orTxf (isTaken : taken → t = orTxf b v s) (notTaken : ¬taken → t = s) :
    Sends (.next t) s taken b v := by
  refine ⟨t, rfl, ?frame, fun h => ?written, notTaken⟩
  case frame =>
    by_cases h : taken
    · rw [isTaken h]; rfl
    · rw [notTaken h]; rfl
  case written =>
    rw [isTaken h]
    exact ⟨by rw [orTxf_read, if_pos rfl], fun j hj => by rw [orTxf_read, if_neg hj]; exact BitVec.or_zero⟩

theorem sends_nothing (b : Nat) (v : Byte) : Sends (.next s) s False b v := sends_of_orTxf False.elim fun _ => rfl

theorem sends_congr {o : Host.Outcome State Fault Refusal} {taken' : Prop} (h : Sends o s taken b v)
    (same : taken ↔ taken') : Sends o s taken' b v := propext same ▸ h

variable {r : Rev} {L : Layout} (reference : layoutOf r s = L)

theorem packMode_of_code (notOff : s.cs.mode ≠ .off) (code : modeCode r (layoutOf r s) s.cs.mode = some v) :
    packMode r s = orTxf (layoutOf r s).modeByte v s := by
  unfold packMode
  split
  next off => exact absurd off notOff
  next => rw [code]

theorem packModeArm_off : packModeArm r .off s = s := by
  unfold packModeArm packMode
  split
  next off => rw [off]
  next => rfl

theorem packPresetArm_none : packPresetArm r .none s = s := by
  unfold packPresetArm packPreset
  split
  next none => rw [none]
  next => rfl

include reference

theorem packModeArm_sends {m : Mode} (notOff : m ≠ .off) (code : modeCode r L m = some v) :
    Sends (.next (packModeArm r m s)) s (s.cs.mode = m) L.modeByte v := by
  refine sends_of_orTxf (fun mode => ?_) fun other => if_neg other
  subst reference mode
  rw [packModeArm, if_pos rfl, packMode_of_code notOff code]

theorem packTemp_sends (bits : tempBits L (sentTemp r s.cs) = v) :
    Sends (.next (packTemp r s)) s True L.tempByte v := by
  subst reference bits
  exact sends_of_orTxf (fun _ => rfl) fun h => absurd trivial h

theorem packFanArm_sends {f : Fan} (code : fanCode L f = v) :
    Sends (.next (packFanArm r f s)) s (sentFan r s.cs = f) L.fanByte v := by
  refine sends_of_orTxf (fun fan => ?_) fun other => if_neg other
  subst reference code fan
  exact if_pos rfl

theorem packPresetArm_sends : Sends (.next (packPresetArm r .sleep s)) s (s.cs.preset = .sleep) L.nightByte L.nightMask := by
  refine sends_of_orTxf (fun preset => ?_) fun other => if_neg other
  subst reference
  rw [packPresetArm, if_pos preset, packPreset, preset]

end

theorem sentFan_C_of_ne_auto {c : Climate} {f : Fan} (notAuto : f ≠ .auto) :
    sentFan .C c = f ↔ c.mode ≠ .auto ∧ c.fan = f := by
  by_cases auto : c.mode = .auto <;> simp [sentFan, auto, notAuto.symm]

theorem sentFan_C_auto {c : Climate} : sentFan .C c = .auto ↔ c.mode = .auto ∨ c.fan = .auto := by
  by_cases auto : c.mode = .auto <;> simp [sentFan, auto]

/-- Settles O17, row by row. -/
theorem fieldRowsOfASendTheirArm : Obligations.FieldRowsOfASendTheirArm := by
  intro s reference
  have L : layoutOf .A s = layoutA := reference
  have off : exec (.aModeOff .tx) s = .next s := congrArg _ (packModeArm_off (r := .A))
  have noNight : exec (.aNightNone .tx) s = .next s := congrArg _ (packPresetArm_none (r := .A))
  rw [off, noNight]
  exact ⟨sends_nothing 6 0x00, packModeArm_sends L (by decide) rfl, packModeArm_sends L (by decide) rfl,
    packModeArm_sends L (by decide) rfl, packModeArm_sends L (by decide) rfl,
    packTemp_sends L (tempBits_layoutA s.cs), packFanArm_sends L rfl, packFanArm_sends L rfl, packFanArm_sends L rfl,
    packFanArm_sends L rfl, sends_nothing 5 0x00, packPresetArm_sends L⟩

/-- Settles O18, row by row. -/
theorem fieldRowsOfBSendTheirArm : Obligations.FieldRowsOfBSendTheirArm := by
  intro s reference
  have L : layoutOf .B s = layoutB := reference
  have off : exec (.bModeOff .tx) s = .next s := congrArg _ (packModeArm_off (r := .B))
  have noNight : exec (.bNightNone .tx) s = .next s := congrArg _ (packPresetArm_none (r := .B))
  rw [off, noNight]
  exact ⟨sends_nothing 6 0x00, packModeArm_sends L (by decide) rfl, packModeArm_sends L (by decide) rfl,
    packModeArm_sends L (by decide) rfl, packModeArm_sends L (by decide) rfl, packModeArm_sends L (by decide) rfl,
    packTemp_sends L (tempBits_layoutB s.cs), packFanArm_sends L rfl, packFanArm_sends L rfl, packFanArm_sends L rfl,
    packFanArm_sends L rfl, sends_nothing 8 0x00, packPresetArm_sends L⟩

/-- Settles O19, row by row; the fan rows go by the fan that is sent, which mode AUTO overrides. -/
theorem fieldRowsOfCSendTheirArm : Obligations.FieldRowsOfCSendTheirArm := by
  intro s reference
  have L : layoutOf .C s = layoutC := reference
  have off : exec (.cModeOff .tx) s = .next s := congrArg _ (packModeArm_off (r := .C))
  have noNight : exec (.cNightNone .tx) s = .next s := congrArg _ (packPresetArm_none (r := .C))
  have fan {f : Fan} (notAuto : f ≠ .auto) : Sends (.next (packFanArm .C f s)) s (s.cs.mode ≠ .auto ∧ s.cs.fan = f) 1
      (fanCode layoutC f) := sends_congr (packFanArm_sends L rfl) (sentFan_C_of_ne_auto notAuto)
  rw [off, noNight]
  exact ⟨sends_nothing 0 0x00, packModeArm_sends L (by decide) rfl, packModeArm_sends L (by decide) rfl,
    packModeArm_sends L (by decide) rfl, packModeArm_sends L (by decide) rfl, packModeArm_sends L (by decide) rfl,
    packTemp_sends L (tempBits_layoutC s.cs), fan (by decide), fan (by decide), fan (by decide),
    sends_congr (packFanArm_sends L rfl) sentFan_C_auto, sends_nothing 2 0x00, packPresetArm_sends L⟩

/-! ### The frame rows -/

theorem frameBytes_writeBytes {bytes : List Byte} (nine : bytes.length = 9) :
    frameBytes (writeBytes [] 0 bytes) = bytes := by
  refine List.ext_getElem (by simp [frameBytes, frameLen, nine]) fun j _ hj => ?_
  simp [frameBytes, readByte_writeBytes, hj]

/-- A frame row loads a buffer in canonical form that holds the bytes of its format. -/
theorem frameRow_loads {s : State} {tx rx : Host.Outcome State Fault Refusal} {sent received : List Byte}
    (txLoads : tx = .next (loadTxf sent s)) (rxLoads : rx = .next (loadRxf received s)) (nine : sent.length = 9)
    (nine' : received.length = 9) :
    ∃ x y, tx = .next (setTxf x s) ∧ rx = .next (setRxf y s) ∧ Memory.wf x = true ∧ Memory.wf y = true ∧
      frameBytes x = sent ∧ frameBytes y = received :=
  ⟨_, _, txLoads, rxLoads, writeBytes_nil_wf nine, writeBytes_nil_wf nine', frameBytes_writeBytes nine,
    frameBytes_writeBytes nine'⟩

theorem frameBytesA_eq (n : BitVec 1) (m : BitVec 8) (t : BitVec 4) (f : BitVec 8) :
    frameBytesA n m t f = [0, 0, 0, 0, 0, 0#7 ++ n, m, 0#4 ++ t, f] := by
  have night : n.setWidth 8 = 0#7 ++ n := BitVec.setWidth_eq_append (by decide)
  have temp : t.setWidth 8 = 0#4 ++ t := BitVec.setWidth_eq_append (by decide)
  rw [frameBytesA, night, temp]

/-- Byte 8 of a received frame of revision A: the never-sent bit reads 0. -/
theorem and_0x7F_eq_append (f : Byte) : f &&& 0x7F = 0#1 ++ f.extractLsb' 0 7 := by
  refine BitVec.eq_of_getLsbD_eq fun i hi => ?_
  have mask : (0x7F : Byte).getLsbD i = decide (i < 7) := by revert i; decide
  rw [BitVec.getLsbD_and, mask, BitVec.getLsbD_append, BitVec.getLsbD_extractLsb', Nat.zero_add]
  by_cases low : i < 7 <;> simp [low]

theorem frameBytesB_eq (m : BitVec 5) (t : BitVec 4) (z : BitVec 1) (f : BitVec 3) (n : BitVec 1) :
    frameBytesB m t z f n = [0, 0, 0, 0, 0, 0, 0#3 ++ m, t ++ 0#4, z ++ 0#3 ++ f ++ n] := by
  have mode : m.setWidth 8 = 0#3 ++ m := BitVec.setWidth_eq_append (by decide)
  have temp : t.setWidth 8 <<< 4 = t ++ 0#4 := by revert t; decide
  have last : z.setWidth 8 <<< 7 ||| f.setWidth 8 <<< 1 ||| n.setWidth 8 = z ++ 0#3 ++ f ++ n := by
    revert z f n; decide
  rw [frameBytesB, mode, temp, last]

theorem frameBytesC_eq (m : BitVec 3) (f : BitVec 2) (t : BitVec 4) (n : BitVec 1) (z : BitVec 1) :
    frameBytesC m f t n z = [0#5 ++ m, 0#2 ++ f ++ t, 0#7 ++ n, 0, 0, 0, 0, 0, 0#7 ++ z] := by
  have mode : m.setWidth 8 = 0#5 ++ m := BitVec.setWidth_eq_append (by decide)
  have fan : f.setWidth 8 <<< 4 ||| t.setWidth 8 = 0#2 ++ f ++ t := by revert f t; decide
  have night : n.setWidth 8 = 0#7 ++ n := BitVec.setWidth_eq_append (by decide)
  have skipped : z.setWidth 8 = 0#7 ++ z := BitVec.setWidth_eq_append (by decide)
  rw [frameBytesC, mode, fan, night, skipped]

/-- Settles O25: each row loads its format's bytes, which are the fields of the format one after the other. -/
theorem frameRowsLoadTheirFormat : Obligations.FrameRowsLoadTheirFormat := by
  refine fun s => ⟨fun n m t f => ?A, fun m t z f n => ?B, fun m f t n z => ?C⟩
  case A =>
    rw [← frameBytesA_eq, ← and_0x7F_eq_append, ← frameBytesA_eq]
    exact frameRow_loads rfl rfl rfl rfl
  case B =>
    have received : frameBytesB m t 0 f n = [0, 0, 0, 0, 0, 0, 0#3 ++ m, t ++ 0#4, 0#4 ++ f ++ n] :=
      frameBytesB_eq m t 0 f n
    rw [← frameBytesB_eq, ← received]
    exact frameRow_loads rfl rfl rfl rfl
  case C =>
    have received : frameBytesC m f t n 0 = [0#5 ++ m, 0#2 ++ f ++ t, 0#7 ++ n, 0, 0, 0, 0, 0, 0] :=
      frameBytesC_eq m f t n 0
    rw [← frameBytesC_eq, ← received]
    exact frameRow_loads rfl rfl rfl rfl

end Sys2Proof.Proofs

/-! ## What UNPACK decodes

With a reference layout each field is decoded by the case that the rules write out; the rows and the whole UNPACK of each
revision are read off one lemma for each field. Under any layout each field is a function of its masked region. -/

namespace Sys2Proof.Proofs

open Sys2Proof.Machine Sys2Proof.Claims

/-! ### The lookups as cases -/

/-- A lookup with a default is the chain of its tests. -/
theorem find?_cons_getD {α : Type} (test : α → Bool) (a : α) (l : List α) (d : α) :
    ((a :: l).find? test).getD d = if test a = true then a else (l.find? test).getD d := by
  rw [List.find?_cons]
  cases test a <;> rfl

section
variable (v : Byte) (prior : Fan)

theorem modeOf_layoutA : modeOf .A layoutA (v &&& layoutA.modeMask) = modeFromA v := by
  have whole : v &&& layoutA.modeMask = v := BitVec.and_allOnes
  rw [whole]
  simp [modeOf, modeArms, find?_cons_getD, -List.find?_singleton, modeCode, layoutA, modeFromA, eq_comm]

theorem modeOf_layoutB : modeOf .B layoutB (v &&& layoutB.modeMask) = modeFromB v := by
  simp [modeOf, modeArms, find?_cons_getD, -List.find?_singleton, modeCode, layoutB, modeFromB, eq_comm]

theorem modeOf_layoutC : modeOf .C layoutC (v &&& layoutC.modeMask) = modeFromC v := by
  simp [modeOf, modeArms, find?_cons_getD, -List.find?_singleton, modeCode, layoutC, modeFromC, eq_comm]

theorem fanOf_layoutA : (fanOf .A layoutA (v &&& layoutA.fanMask)).getD prior = fanFromA v prior := by
  have whole : v &&& layoutA.fanMask = v := BitVec.and_allOnes
  rw [whole]
  simp [fanOf, fanArms, find?_cons_getD, -List.find?_singleton, fanCode, layoutA, fanFromA, eq_comm]

theorem fanOf_layoutB : (fanOf .B layoutB (v &&& layoutB.fanMask)).getD prior = fanFromB v prior := by
  simp [fanOf, fanArms, find?_cons_getD, -List.find?_singleton, fanCode, layoutB, fanFromB, eq_comm]

theorem fanOf_layoutC : (fanOf .C layoutC (v &&& layoutC.fanMask)).getD prior = fanFromC v prior := by
  simp [fanOf, fanArms, find?_cons_getD, -List.find?_singleton, fanCode, layoutC, fanFromC, eq_comm]

theorem presetOf_and_one : presetOf (v &&& 0x01) = presetFrom v := ite_not ..

theorem presetFrom_eq_none : presetFrom v = .none ↔ v &&& 0x01 = 0 := by
  by_cases unset : v &&& 0x01 = 0
  · exact iff_of_true (if_pos unset) unset
  · exact iff_of_false (by rw [presetFrom, if_neg unset]; decide) unset

theorem presetFrom_eq_sleep : presetFrom v = .sleep ↔ v &&& 0x01 ≠ 0 := by
  rw [ne_eq, ← presetFrom_eq_none]
  cases presetFrom v <;> decide

theorem tempOf_layoutA : tempOf layoutA v = tempFrom (v &&& 0x0F) :=
  congrArg (fun w => tempFrom (w &&& 0x0F)) (BitVec.ushiftRight_zero v)

/-- Four bits are left of a byte shifted down by four. -/
theorem tempOf_layoutB : tempOf layoutB v = tempFrom (v >>> 4) := by
  have highNibble : (v >>> 4) &&& 0x0F#8 = v >>> 4 := by
    refine BitVec.eq_of_getLsbD_eq fun i hi => ?_
    have mask : (0x0F#8).getLsbD i = decide (i < 4) := by revert i; decide
    rw [BitVec.getLsbD_and, mask, BitVec.getLsbD_ushiftRight]
    by_cases low : i < 4
    · simp [low]
    · simp [low, BitVec.getLsbD_of_ge v (4 + i) (by omega)]
  exact congrArg tempFrom highNibble

theorem tempOf_layoutC : tempOf layoutC v = tempFrom (v &&& 0x0F) := tempOf_layoutA v

end

/-! ### The fields of a revision with a known layout -/

section
variable {r : Rev} {s : State} {L : Layout} (known : layoutOf r s = L)
include known

theorem rxMode_of_layout : rxMode r s = modeOf r L (readByte s.rxf L.modeByte &&& L.modeMask) := by subst known; rfl

theorem rxTemp_of_layout : rxTemp r s = tempOf L (readByte s.rxf L.tempByte) := by subst known; rfl

theorem rxFan_of_layout : rxFan r s = fanOf r L (readByte s.rxf L.fanByte &&& L.fanMask) := by subst known; rfl

theorem rxPreset_of_layout : rxPreset r s = presetOf (readByte s.rxf L.nightByte &&& L.nightMask) := by subst known; rfl

end

section
variable {s : State}

section
variable (reference : s.build.layout.a = layoutA)
include reference

theorem rxMode_A : rxMode .A s = modeFromA (readByte s.rxf 6) :=
  (rxMode_of_layout (r := .A) reference).trans (modeOf_layoutA _)

theorem rxTemp_A : rxTemp .A s = tempFrom (readByte s.rxf 7 &&& 0x0F) :=
  (rxTemp_of_layout (r := .A) reference).trans (tempOf_layoutA _)

theorem rxFan_A (prior : Fan) : (rxFan .A s).getD prior = fanFromA (readByte s.rxf 8) prior := by
  rw [rxFan_of_layout (r := .A) reference]
  exact fanOf_layoutA _ prior

theorem rxPreset_A : rxPreset .A s = presetFrom (readByte s.rxf 5) :=
  (rxPreset_of_layout (r := .A) reference).trans (presetOf_and_one _)

end

section
variable (reference : s.build.layout.b = layoutB)
include reference

theorem rxMode_B : rxMode .B s = modeFromB (readByte s.rxf 6) :=
  (rxMode_of_layout (r := .B) reference).trans (modeOf_layoutB _)

theorem rxTemp_B : rxTemp .B s = tempFrom (readByte s.rxf 7 >>> 4) :=
  (rxTemp_of_layout (r := .B) reference).trans (tempOf_layoutB _)

theorem rxFan_B (prior : Fan) : (rxFan .B s).getD prior = fanFromB (readByte s.rxf 8) prior := by
  rw [rxFan_of_layout (r := .B) reference]
  exact fanOf_layoutB _ prior

theorem rxPreset_B : rxPreset .B s = presetFrom (readByte s.rxf 8) :=
  (rxPreset_of_layout (r := .B) reference).trans (presetOf_and_one _)

end

section
variable (reference : s.build.layout.c = layoutC)
include reference

theorem rxMode_C : rxMode .C s = modeFromC (readByte s.rxf 0) :=
  (rxMode_of_layout (r := .C) reference).trans (modeOf_layoutC _)

theorem rxTemp_C : rxTemp .C s = tempFrom (readByte s.rxf 1 &&& 0x0F) :=
  (rxTemp_of_layout (r := .C) reference).trans (tempOf_layoutC _)

theorem rxFan_C (prior : Fan) : (rxFan .C s).getD prior = fanFromC (readByte s.rxf 1) prior := by
  rw [rxFan_of_layout (r := .C) reference]
  exact fanOf_layoutC _ prior

theorem rxPreset_C : rxPreset .C s = presetFrom (readByte s.rxf 2) :=
  (rxPreset_of_layout (r := .C) reference).trans (presetOf_and_one _)

end
end

/-! ### UNPACK with a reference layout -/

/-- Settles O40, field by field; AUX is not written in revision A. -/
theorem unpackADecodesTheFrame : Obligations.UnpackADecodesTheFrame := by
  rintro s rev reference c rfl
  rw [exec_unpack, unpack_eq, rev, if_neg (by decide), decoded, rxMode_A reference, rxTemp_A reference,
    rxFan_A reference, rxPreset_A reference]
  rfl

/-- Settles O41, field by field; AUX is not written in revision B. -/
theorem unpackBDecodesTheFrame : Obligations.UnpackBDecodesTheFrame := by
  rintro s rev reference c rfl
  rw [exec_unpack, unpack_eq, rev, if_neg (by decide), decoded, rxMode_B reference, rxTemp_B reference,
    rxFan_B reference, rxPreset_B reference]
  rfl

/-- Settles O42, field by field. -/
theorem unpackCDecodesTheFrame : Obligations.UnpackCDecodesTheFrame := by
  rintro s rev reference c rfl
  rw [exec_unpack, unpack_eq, rev, if_pos rfl, decoded, rxMode_C reference, rxTemp_C reference,
    rxFan_C reference, rxPreset_C reference]

/-! ### The FIELD rows on the receive side -/

section
variable {r : Rev} {s : State}

/-- A row that writes the decoder's result where it is taken and nothing otherwise. -/
theorem decodes_arm (s : State) (taken : Prop) [Decidable taken] (c : Climate) :
    Decodes (.next (if taken then setDec c s else s)) s taken c :=
  ⟨_, rfl, fun h => if_pos h, fun h => if_neg h⟩

theorem unpackModeArm_decodes {m m' : Mode} (decoded : rxMode r s = m') :
    Decodes (.next (unpackModeArm r m s)) s (m' = m) { s.dec with mode := m } := by
  subst decoded
  refine ⟨_, rfl, fun taken => ?_, fun other => if_neg other⟩
  subst taken
  exact if_pos rfl

theorem unpackTemp_decodes {t : Int} (decoded : rxTemp r s = t) :
    Decodes (.next (unpackTemp r s)) s True { s.dec with temp := t } := by
  subst decoded
  exact ⟨_, rfl, fun _ => rfl, fun h => absurd trivial h⟩

theorem unpackFanArm_decodes {fromFrame : Fan → Fan} (decoded : ∀ prior, (rxFan r s).getD prior = fromFrame prior)
    (f : Fan) : Decodes (.next (unpackFanArm r f s)) s (fromFrame f = f) { s.dec with fan := fromFrame s.cs.fan } := by
  rw [← decoded, ← decoded]
  exact decodes_arm s _ _

theorem unpackPresetArm_decodes {p p' : Preset} {taken : Prop} (decoded : rxPreset r s = p') (same : p' = p ↔ taken) :
    Decodes (.next (unpackPresetArm r p s)) s taken { s.dec with preset := p } := by
  subst decoded
  refine ⟨_, rfl, fun h => ?_, fun h => if_neg (mt same.1 h)⟩
  have decodesHere := same.2 h
  subst decodesHere
  exact if_pos rfl

end

/-- Settles O20, row by row. -/
theorem fieldRowsOfADecodeTheirArm : Obligations.FieldRowsOfADecodeTheirArm := by
  intro s reference
  have mode (m : Mode) := unpackModeArm_decodes (m := m) (rxMode_A reference)
  have fan (f : Fan) := unpackFanArm_decodes (rxFan_A reference) f
  exact ⟨fun p hp => by fin_cases hp <;> exact mode _, unpackTemp_decodes (rxTemp_A reference),
    fun p hp => by fin_cases hp <;> exact fan _,
    unpackPresetArm_decodes (rxPreset_A reference) (presetFrom_eq_none _),
    unpackPresetArm_decodes (rxPreset_A reference) (presetFrom_eq_sleep _)⟩

/-- Settles O21, row by row. -/
theorem fieldRowsOfBDecodeTheirArm : Obligations.FieldRowsOfBDecodeTheirArm := by
  intro s reference
  have mode (m : Mode) := unpackModeArm_decodes (m := m) (rxMode_B reference)
  have fan (f : Fan) := unpackFanArm_decodes (rxFan_B reference) f
  exact ⟨fun p hp => by fin_cases hp <;> exact mode _, unpackTemp_decodes (rxTemp_B reference),
    fun p hp => by fin_cases hp <;> exact fan _,
    unpackPresetArm_decodes (rxPreset_B reference) (presetFrom_eq_none _),
    unpackPresetArm_decodes (rxPreset_B reference) (presetFrom_eq_sleep _)⟩

/-- Settles O22, row by row. -/
theorem fieldRowsOfCDecodeTheirArm : Obligations.FieldRowsOfCDecodeTheirArm := by
  intro s reference
  have mode (m : Mode) := unpackModeArm_decodes (m := m) (rxMode_C reference)
  have fan (f : Fan) := unpackFanArm_decodes (rxFan_C reference) f
  exact ⟨fun p hp => by fin_cases hp <;> exact mode _, unpackTemp_decodes (rxTemp_C reference),
    fun p hp => by fin_cases hp <;> exact fan _,
    unpackPresetArm_decodes (rxPreset_C reference) (presetFrom_eq_none _),
    unpackPresetArm_decodes (rxPreset_C reference) (presetFrom_eq_sleep _)⟩

/-! ### UNPACK under any layout -/

/-- The night bits decide the preset (43_unpack.md R196). -/
theorem presetOf_eq_sleep {v : Byte} : presetOf v = .sleep ↔ v ≠ 0 := by
  by_cases unset : v = 0
  · subst unset
    decide
  · exact iff_of_true (if_pos unset) unset

/-- Settles O44: the update UNPACK is, and the domains of what it decodes. -/
theorem unpackYieldsAValidState : Obligations.UnpackYieldsAValidState := by
  intro s
  obtain ⟨⟨low, high⟩, supported⟩ := decoded_valid s.build.rev s
  exact ⟨decoded s.build.rev s, by rw [exec_unpack, unpack_eq], low, high, fun rev heat => supported ⟨rev, heat⟩,
    presetOf_eq_sleep⟩

/-- The table of 43_unpack.md R195 is the clamp of the field plus 15. -/
theorem tempTable_getElem? {n : Nat} (hn : n < 16) : tempTable[n]? = some (clampTemp (n + tempOff)) := by
  revert n
  decide

/-- Settles O45: four bits are an index of the table. -/
theorem temperatureDecodeTable : Obligations.TemperatureDecodeTable := by
  intro s
  have fourBits : ((readByte s.rxf (layout s).tempByte >>> (layout s).tempShift) &&& 0x0F).toNat < 16 := by
    rw [BitVec.toNat_and]
    exact Nat.lt_succ_of_le Nat.and_le_right
  refine ⟨unpack s, exec_unpack s, ?_⟩
  rw [unpack_cs, tempTable_getElem? fourBits]
  rfl

/-- Settles O46: each field is a function of its masked region, that of the temperature by `tempField_of_masked`. -/
theorem bitsOutsideTheRegionsAreNotRead : Obligations.BitsOutsideTheRegionsAreNotRead := by
  intro s m same
  refine ⟨unpack s, unpack (setRxf m s), exec_unpack s, exec_unpack _, ?_⟩
  simp only [Layout.regions, List.forall_mem_cons] at same
  obtain ⟨mode, temp, fan, night, -⟩ := same
  have known : layoutOf s.build.rev s = layout s := rfl
  have known' : layoutOf s.build.rev (setRxf m s) = layout s := rfl
  have sameMode : rxMode s.build.rev (setRxf m s) = rxMode s.build.rev s := by
    rw [rxMode_of_layout known, rxMode_of_layout known', setRxf_rxf, mode]
  have sameTemp : rxTemp s.build.rev (setRxf m s) = rxTemp s.build.rev s := by
    rw [rxTemp_of_layout known, rxTemp_of_layout known', setRxf_rxf, tempOf, tempOf, tempField_of_masked, temp,
      ← tempField_of_masked]
  have sameFan : rxFan s.build.rev (setRxf m s) = rxFan s.build.rev s := by
    rw [rxFan_of_layout known, rxFan_of_layout known', setRxf_rxf, fan]
  have samePreset : rxPreset s.build.rev (setRxf m s) = rxPreset s.build.rev s := by
    rw [rxPreset_of_layout known, rxPreset_of_layout known', setRxf_rxf, night]
  rw [unpack_cs, unpack_cs, setRxf_build, decoded, decoded, sameMode, sameTemp, sameFan, samePreset, setRxf_cs]

/-- Settles O47: the fan UNPACK writes is the one looked up, and under WF a code belongs to one fan. -/
theorem unmatchedFanKeepsThePrior : Obligations.UnmatchedFanKeepsThePrior := by
  intro s
  have fan : (unpack s).cs.fan = (rxFan s.build.rev s).getD s.cs.fan := by rw [unpack_cs]; rfl
  have looked := rxFan_of_layout (r := s.build.rev) (s := s) (L := layout s) rfl
  refine ⟨unpack s, exec_unpack s, fun noCode => ?unmatched, fun f wf code => ?matched⟩
  case unmatched =>
    rcases fanOf_cases s.build.rev (layout s) (readByte s.rxf (layout s).fanByte &&& (layout s).fanMask) with
      ⟨none, -⟩ | ⟨f, -, code⟩
    · rw [fan, looked, none, Option.getD_none]
    · exact absurd code (noCode f)
  case matched => rw [fan, looked, ← code, fanOf_fanCode _ wf, Option.getD_some]

end Sys2Proof.Proofs
